-- ==== Sys2Proof/Word.lean ====
section
/-! DEFINITION. The word type of the block (R5): every register and opcode is a bit vector whose width is a parameter of R4. A single bit
is a `Bool`: true = 1 = high = asserted. -/

namespace Sys2Proof

/-- `bits N` (R5): bit 0 is the least significant, all values are unsigned. -/
abbrev Bits (n : Nat) := BitVec n

end Sys2Proof
end

