-- ==== Sys2Proof/Config.lean ====
section
/-! DEFINITION. The implementation parameters of 00_scope.md R4 as the structure `Params`, which the model takes as an argument: every row
of R4's table is a field that an instance sets, the widths too. Those with a value in the source have it as the normative default (D9, log 17), the
five OPEN ones have none. -/

namespace Sys2Proof

namespace Config

/-- The source's value of `IR_WIDTH` (R4). -/
abbrev irWidth : Nat := 16

/-- The source's value of `LEN_BYPASS` (R4). -/
abbrev lenBypass : Nat := 1

/-- The source's value of `LEN_IDCODE` (R4). -/
abbrev lenIdcode : Nat := 32

/-- The source's value of `LEN_BSR` (R4). -/
abbrev lenBsr : Nat := 32

/-- The source's value of `LEN_UNKNOWN` (R4). -/
abbrev lenUnknown : Nat := 32

/-- The source's value of `OPC_IDCODE`: "IDCODE (value 4)" (R4). `OPC_BYPASS` is all ones, at whatever width. -/
def opcIdcode : Nat := 0x0004

/-- The source's value of `DEVICE_ID` (R4). -/
def deviceId : Nat := 0x89BEEF01

/-- The source's value of `UNKNOWN_RELOAD` (R4). -/
def unknownReload : Nat := 0xDEADBEEF

/-- The source's value of `BYPASS_RELOAD` (R4). -/
def bypassReload : Nat := 0

/-- The source's example of an unrecognised opcode, which no OPEN opcode may equal (R4). -/
def opcUnrecognisedExample : Nat := 0x0009

end Config

/-- The parameters of an instance (R4). "each is a named parameter whose normative default is the source's value" (D9); "Values marked OPEN
have no value in the source and the model takes them as arguments". An opcode has the width of `IR`, a reload value the length of its
register. An instance's parameters are fixed for its life, so a claim over every state is a claim over every value of these. -/
structure Params where
  /-- `IR_WIDTH`. -/
  irWidth : Nat := Config.irWidth
  /-- `LEN_BYPASS`. -/
  lenBypass : Nat := Config.lenBypass
  /-- `LEN_IDCODE`. -/
  lenIdcode : Nat := Config.lenIdcode
  /-- `LEN_BSR`. -/
  lenBsr : Nat := Config.lenBsr
  /-- `LEN_UNKNOWN`. -/
  lenUnknown : Nat := Config.lenUnknown
  /-- `OPC_BYPASS`. -/
  opcBypass : Bits irWidth := BitVec.allOnes irWidth
  /-- `OPC_IDCODE`. -/
  opcIdcode : Bits irWidth := BitVec.ofNat irWidth Config.opcIdcode
  /-- `OPC_EXTEST`, OPEN (D7). -/
  opcExtest : Bits irWidth
  /-- `OPC_SAMPLE`, OPEN (D7). -/
  opcSample : Bits irWidth
  /-- `DEVICE_ID`. -/
  deviceId : Bits lenIdcode := BitVec.ofNat lenIdcode Config.deviceId
  /-- `BSR_RELOAD`, OPEN (D8). -/
  bsrReload : Bits lenBsr
  /-- `UNKNOWN_RELOAD`. -/
  unknownReload : Bits lenUnknown := BitVec.ofNat lenUnknown Config.unknownReload
  /-- `BYPASS_RELOAD`. -/
  bypassReload : Bits lenBypass := BitVec.ofNat lenBypass Config.bypassReload
  /-- `PREV_TCK_INIT`, OPEN (D2). -/
  prevTckInit : Bool
  /-- `TDO_INIT`, OPEN (D3). -/
  tdoInit : Bool
  /-- A register has a bit: the shift reads bit 0 and writes bit `N - 1` (R100; log 17). -/
  widths_pos : 0 < irWidth ∧ 0 < lenBypass ∧ 0 < lenIdcode ∧ 0 < lenBsr ∧ 0 < lenUnknown := by decide
deriving DecidableEq, Repr

/-- The parameters that have a value in the source have that value (R4, D9); the OPEN ones are free. -/
abbrev Params.Normative (p : Params) : Prop :=
  (p.irWidth = 16 ∧ p.lenBypass = 1 ∧ p.lenIdcode = 32 ∧ p.lenBsr = 32 ∧ p.lenUnknown = 32) ∧
    p.opcBypass.toNat = 0xFFFF ∧ p.opcIdcode.toNat = Config.opcIdcode ∧ p.deviceId.toNat = Config.deviceId ∧
    p.unknownReload.toNat = Config.unknownReload ∧ p.bypassReload.toNat = Config.bypassReload

/-- The constraints R4 puts on the OPEN opcodes: each differs from `OPC_BYPASS`, from `OPC_IDCODE` and from 9; they may
equal each other. -/
abbrev Params.Conforming (p : Params) : Prop :=
  (p.opcExtest ≠ p.opcBypass ∧ p.opcExtest ≠ p.opcIdcode ∧ p.opcExtest.toNat ≠ Config.opcUnrecognisedExample) ∧
  (p.opcSample ≠ p.opcBypass ∧ p.opcSample ≠ p.opcIdcode ∧ p.opcSample.toNat ≠ Config.opcUnrecognisedExample)

/-- The source's values, and for the OPEN parameters, DESIGN CHOICE (log 1 to 4), the vector defaults and recommended defaults of R4. The
latter are no fact about the hardware: only `State.reset`, the table's own words and tests use them. -/
def Params.vectorDefaults : Params where
  opcExtest := 0x0000#16
  opcSample := 0x0001#16
  bsrReload := 0x55AA55AA#32
  prevTckInit := false
  tdoInit := false

end Sys2Proof
end

