-- ==== Sys2Proof/Syntax.lean ====
section
/-! DEFINITION. The syntax, whole: the TAP states, the bank entries, the pin sample, the three formats of 30_encoding.md
R45, and one constructor of `Instr` per row of spec/opcode_table.json. -/

namespace Sys2Proof

/-- TapState: the 16 states, in the order of 00_scope.md R9. -/
inductive TapState where
  | reset
  | idle
  | drScan
  | drCapture
  | drShift
  | drExit1
  | drPause
  | drExit2
  | drUpdate
  | irScan
  | irCapture
  | irShift
  | irExit1
  | irPause
  | irExit2
  | irUpdate
deriving DecidableEq, Repr

/-- The four entries of the data-register bank (R13, R16). -/
inductive Entry where
  | bypass
  | idcode
  | bsr
  | unknown
deriving DecidableEq, Repr

/-- One pin sample: the three inputs of one `step` call (R46). There is no packed word. -/
structure PinSample where
  tms : Bool
  tck : Bool
  tdi : Bool
deriving DecidableEq, Repr

/-- The formats of R45, each with its bits, for an instance whose `IR` has `n` bits. -/
inductive CodeWord (n : Nat) where
  /-- `PINSAMPLE`: the argument of one step (R46). -/
  | pinSample (p : PinSample)
  /-- `TAPSTEP`: the five bits `ssss t` of R51, and the `tdi` of the edge sample, to which R51 gives no bit. -/
  | tapStep (bits : BitVec 5) (tdi : Bool)
  /-- `IRWORD`: the one opcode field of R47, the whole word. -/
  | irWord (opcode : Bits n)
deriving DecidableEq, Repr

/-- The opcode classes of `IRWORD` (R49). An opcode outside the four is carried as its unsigned value (R47), since its width is a parameter. -/
inductive IrOp where
  | bypass
  | idcode
  | extest
  | sample
  | unknown (opcode : Nat)
deriving DecidableEq, Repr

/-- The instructions: one constructor per row of spec/opcode_table.json. -/
inductive Instr where
  /-- `STEP`: the whole step (R72). -/
  | step (tms tck tdi : Bool)
  /-- `BYPASS` (R119). -/
  | bypass
  /-- `IDCODE` (R120). -/
  | idcode
  /-- `EXTEST` (R121). -/
  | extest
  /-- `SAMPLE` (R122). -/
  | sample
  /-- `UNKNOWN`: every opcode that is none of the four above, by its unsigned value (R123, R47). -/
  | unknown (opcode : Nat)
  /-- `Reset.0` (R74). -/
  | reset_0
  /-- `Reset.1` (R74). -/
  | reset_1
  /-- `Idle.0` (R75). -/
  | idle_0
  /-- `Idle.1` (R75). -/
  | idle_1
  /-- `DrScan.0` (R76). -/
  | drScan_0
  /-- `DrScan.1` (R76). -/
  | drScan_1
  /-- `DrCapture.0` (R77). -/
  | drCapture_0
  /-- `DrCapture.1` (R77). -/
  | drCapture_1
  /-- `DrShift.0` (R78). -/
  | drShift_0 (tdi : Bool)
  /-- `DrShift.1` (R78). -/
  | drShift_1 (tdi : Bool)
  /-- `DrExit1.0` (R79). -/
  | drExit1_0
  /-- `DrExit1.1` (R79). -/
  | drExit1_1
  /-- `DrPause.0` (R80). -/
  | drPause_0
  /-- `DrPause.1` (R80). -/
  | drPause_1
  /-- `DrExit2.0` (R81). -/
  | drExit2_0
  /-- `DrExit2.1` (R81). -/
  | drExit2_1
  /-- `DrUpdate.0` (R82). -/
  | drUpdate_0
  /-- `DrUpdate.1` (R82). -/
  | drUpdate_1
  /-- `IrScan.0` (R83). -/
  | irScan_0
  /-- `IrScan.1` (R83). -/
  | irScan_1
  /-- `IrCapture.0` (R84). -/
  | irCapture_0
  /-- `IrCapture.1` (R84). -/
  | irCapture_1
  /-- `IrShift.0` (R85). -/
  | irShift_0 (tdi : Bool)
  /-- `IrShift.1` (R85). -/
  | irShift_1 (tdi : Bool)
  /-- `IrExit1.0` (R86). -/
  | irExit1_0
  /-- `IrExit1.1` (R86). -/
  | irExit1_1
  /-- `IrPause.0` (R87). -/
  | irPause_0
  /-- `IrPause.1` (R87). -/
  | irPause_1
  /-- `IrExit2.0` (R88). -/
  | irExit2_0
  /-- `IrExit2.1` (R88). -/
  | irExit2_1
  /-- `IrUpdate.0` (R89). -/
  | irUpdate_0
  /-- `IrUpdate.1` (R89). -/
  | irUpdate_1
deriving DecidableEq, Repr

end Sys2Proof
end

