-- ==== Sys2Proof/WellFormed.lean ====
section
/-! DEFINITION. Well-formed instructions: those that some word denotes under given parameters. Only `IRWORD` rows, whose
words depend on the parameters, can be ill-formed. -/

namespace Sys2Proof

/-- An opcode that the first two rows of R49 do not take. -/
def opcodeFree (p : Params) (w : Bits p.irWidth) : Bool := w != p.opcBypass && w != p.opcIdcode

/-- Is there a word that decodes to `i`? `IDCODE` has one unless `OPC_IDCODE` is `OPC_BYPASS`; `EXTEST` has one unless `OPC_EXTEST`
collides with an earlier row of R49; `SAMPLE` has one unless `OPC_SAMPLE` does; `UNKNOWN` carries an opcode that fits `IR` and
that no other row takes (R49, R118). -/
def Instr.wf (p : Params) : Instr → Bool
  | .idcode => p.opcIdcode != p.opcBypass
  | .extest => opcodeFree p p.opcExtest
  | .sample => opcodeFree p p.opcSample && p.opcSample != p.opcExtest
  | .unknown w =>
    let v := BitVec.ofNat p.irWidth w
    decide (w < 2 ^ p.irWidth) && opcodeFree p v && v != p.opcExtest && v != p.opcSample
  | .step _ _ _ | .bypass => true
  | .reset_0 | .reset_1 => true
  | .idle_0 | .idle_1 => true
  | .drScan_0 | .drScan_1 => true
  | .drCapture_0 | .drCapture_1 => true
  | .drShift_0 _ | .drShift_1 _ => true
  | .drExit1_0 | .drExit1_1 => true
  | .drPause_0 | .drPause_1 => true
  | .drExit2_0 | .drExit2_1 => true
  | .drUpdate_0 | .drUpdate_1 => true
  | .irScan_0 | .irScan_1 => true
  | .irCapture_0 | .irCapture_1 => true
  | .irShift_0 _ | .irShift_1 _ => true
  | .irExit1_0 | .irExit1_1 => true
  | .irPause_0 | .irPause_1 => true
  | .irExit2_0 | .irExit2_1 => true
  | .irUpdate_0 | .irUpdate_1 => true

end Sys2Proof
end

