-- ==== Sys2Proof/Decode.lean ====
section
/-! DEFINITION. Decoding, total on every word of every format (R50: "A decoder for this block is total and has no refusal
arm"); framing of table numbers into the three formats, which rejects by name; and the encoder. -/

namespace Sys2Proof

/-- The number of a state in the `TAPSTEP` rows (R11; D10: the spec's own numbering). -/
def TapState.num : TapState → BitVec 4
  | .reset => 0#4
  | .idle => 1#4
  | .drScan => 2#4
  | .drCapture => 3#4
  | .drShift => 4#4
  | .drExit1 => 5#4
  | .drPause => 6#4
  | .drExit2 => 7#4
  | .drUpdate => 8#4
  | .irScan => 9#4
  | .irCapture => 10#4
  | .irShift => 11#4
  | .irExit1 => 12#4
  | .irPause => 13#4
  | .irExit2 => 14#4
  | .irUpdate => 15#4

/-- The state of a number (R11). -/
def TapState.ofNum (n : BitVec 4) : TapState :=
  match n.toNat with
  | 0 => .reset
  | 1 => .idle
  | 2 => .drScan
  | 3 => .drCapture
  | 4 => .drShift
  | 5 => .drExit1
  | 6 => .drPause
  | 7 => .drExit2
  | 8 => .drUpdate
  | 9 => .irScan
  | 10 => .irCapture
  | 11 => .irShift
  | 12 => .irExit1
  | 13 => .irPause
  | 14 => .irExit2
  | _ => .irUpdate

/-- The opcode class of a committed value: the rows of R49 in their order, the first that holds decides. -/
def irOp (p : Params) (w : Bits p.irWidth) : IrOp :=
  if w = p.opcBypass then .bypass
  else if w = p.opcIdcode then .idcode
  else if w = p.opcExtest then .extest
  else if w = p.opcSample then .sample
  else .unknown w.toNat

/-- The bank entry of an opcode class (R49, column "selects"). -/
def IrOp.entry : IrOp → Entry
  | .bypass => .bypass
  | .idcode => .idcode
  | .extest => .bsr
  | .sample => .bsr
  | .unknown _ => .unknown

/-- `decode(ir)` of R115: the bank entry a committed value selects. -/
def decodeEntry (p : Params) (w : Bits p.irWidth) : Entry := (irOp p w).entry

/-- The `IRWORD` instruction of an opcode class. -/
def IrOp.toInstr : IrOp → Instr
  | .bypass => .bypass
  | .idcode => .idcode
  | .extest => .extest
  | .sample => .sample
  | .unknown w => .unknown w

/-- The operation an edge performs, selected by the pair (`state`, `tms`) (R51). `tdi` is an operand of the shift rows only
(R92). -/
def tapInstr (st : TapState) (tms tdi : Bool) : Instr :=
  match st, tms with
  | .reset, false => .reset_0
  | .reset, true => .reset_1
  | .idle, false => .idle_0
  | .idle, true => .idle_1
  | .drScan, false => .drScan_0
  | .drScan, true => .drScan_1
  | .drCapture, false => .drCapture_0
  | .drCapture, true => .drCapture_1
  | .drShift, false => .drShift_0 tdi
  | .drShift, true => .drShift_1 tdi
  | .drExit1, false => .drExit1_0
  | .drExit1, true => .drExit1_1
  | .drPause, false => .drPause_0
  | .drPause, true => .drPause_1
  | .drExit2, false => .drExit2_0
  | .drExit2, true => .drExit2_1
  | .drUpdate, false => .drUpdate_0
  | .drUpdate, true => .drUpdate_1
  | .irScan, false => .irScan_0
  | .irScan, true => .irScan_1
  | .irCapture, false => .irCapture_0
  | .irCapture, true => .irCapture_1
  | .irShift, false => .irShift_0 tdi
  | .irShift, true => .irShift_1 tdi
  | .irExit1, false => .irExit1_0
  | .irExit1, true => .irExit1_1
  | .irPause, false => .irPause_0
  | .irPause, true => .irPause_1
  | .irExit2, false => .irExit2_0
  | .irExit2, true => .irExit2_1
  | .irUpdate, false => .irUpdate_0
  | .irUpdate, true => .irUpdate_1

/-- The five bits `ssss t` of a `TAPSTEP` row (R51). -/
def tapBits (st : TapState) (tms : Bool) : BitVec 5 := st.num ++ BitVec.ofBool tms

/-- The instruction a word denotes, given the opcodes of the instance. Total (R50). -/
def decode (p : Params) : CodeWord p.irWidth → Instr
  | .pinSample q => .step q.tms q.tck q.tdi
  | .tapStep bits tdi => tapInstr (TapState.ofNum (bits.extractLsb' 1 4)) (bits.getLsbD 0) tdi
  | .irWord w => (irOp p w).toInstr

/-- Why a number of the table's numbering is no word of any format. -/
inductive DecodeReject where
  /-- No format has this many bits. -/
  | noSuchLength (nbits : Nat)
  /-- The number does not fit, or is a byte to which the model's packing gives no meaning. -/
  | unassigned (nbits w : Nat)
deriving DecidableEq, Repr

/-- How many bits an `IRWORD` is numbered in: 16, as R47 has it, for every `IR` of up to 16 bits, else as many whole bytes as it takes. -/
def irWordBits (n : Nat) : Nat := max 16 (8 * ((n + 7) / 8))

/-- The word that `nbits` bits with value `w` are, where `IR` has `n` bits. 16 bits are an `IRWORD` (R47), 5 bits a `TAPSTEP` and 3 bits a pin sample
written `tms tck tdi` (R53). Of a byte, values below 64 are a `TAPSTEP` with `tdi` at bit 5, and 64 to 71 a pin sample.
DESIGN CHOICE (log 9): the source gives `TAPSTEP` and `PINSAMPLE` no packed form (R46, R51). -/
def frameWord (n nbits w : Nat) : Except DecodeReject (CodeWord n) :=
  let pins := CodeWord.pinSample ⟨w.testBit 2, w.testBit 1, w.testBit 0⟩
  match nbits with
  | 8 =>
    if w < 64 then .ok (.tapStep (BitVec.ofNat 5 w) (w.testBit 5))
    else if w < 72 then .ok pins
    else .error (.unassigned nbits w)
  | 5 => if w < 32 then .ok (.tapStep (BitVec.ofNat 5 w) false) else .error (.unassigned nbits w)
  | 3 => if w < 8 then .ok pins else .error (.unassigned nbits w)
  | nb =>
    if nb = irWordBits n then
      if w < 2 ^ n then .ok (.irWord (BitVec.ofNat n w)) else .error (.unassigned nb w)
    else .error (.noSuchLength nb)

/-- The instruction of a number as spec/opcode_table.json numbers its bits. The table's rows carry the
source's opcodes, and for `EXTEST` and `SAMPLE` the vector defaults (R53), so this reads words under them. -/
def decodeTableWord (nbits w : Nat) : Option Instr :=
  match frameWord Params.vectorDefaults.irWidth nbits w with
  | .ok c => some (decode Params.vectorDefaults c)
  | .error _ => none

/-- The word of an instruction (R47, R51). Where an instruction ignores `tdi`, the word has `tdi` = 0. -/
def encode (p : Params) : Instr → CodeWord p.irWidth
  | .step tms tck tdi => .pinSample ⟨tms, tck, tdi⟩
  | .bypass => .irWord p.opcBypass
  | .idcode => .irWord p.opcIdcode
  | .extest => .irWord p.opcExtest
  | .sample => .irWord p.opcSample
  | .unknown w => .irWord (BitVec.ofNat p.irWidth w)
  | .reset_0 => .tapStep (tapBits .reset false) false
  | .reset_1 => .tapStep (tapBits .reset true) false
  | .idle_0 => .tapStep (tapBits .idle false) false
  | .idle_1 => .tapStep (tapBits .idle true) false
  | .drScan_0 => .tapStep (tapBits .drScan false) false
  | .drScan_1 => .tapStep (tapBits .drScan true) false
  | .drCapture_0 => .tapStep (tapBits .drCapture false) false
  | .drCapture_1 => .tapStep (tapBits .drCapture true) false
  | .drShift_0 tdi => .tapStep (tapBits .drShift false) tdi
  | .drShift_1 tdi => .tapStep (tapBits .drShift true) tdi
  | .drExit1_0 => .tapStep (tapBits .drExit1 false) false
  | .drExit1_1 => .tapStep (tapBits .drExit1 true) false
  | .drPause_0 => .tapStep (tapBits .drPause false) false
  | .drPause_1 => .tapStep (tapBits .drPause true) false
  | .drExit2_0 => .tapStep (tapBits .drExit2 false) false
  | .drExit2_1 => .tapStep (tapBits .drExit2 true) false
  | .drUpdate_0 => .tapStep (tapBits .drUpdate false) false
  | .drUpdate_1 => .tapStep (tapBits .drUpdate true) false
  | .irScan_0 => .tapStep (tapBits .irScan false) false
  | .irScan_1 => .tapStep (tapBits .irScan true) false
  | .irCapture_0 => .tapStep (tapBits .irCapture false) false
  | .irCapture_1 => .tapStep (tapBits .irCapture true) false
  | .irShift_0 tdi => .tapStep (tapBits .irShift false) tdi
  | .irShift_1 tdi => .tapStep (tapBits .irShift true) tdi
  | .irExit1_0 => .tapStep (tapBits .irExit1 false) false
  | .irExit1_1 => .tapStep (tapBits .irExit1 true) false
  | .irPause_0 => .tapStep (tapBits .irPause false) false
  | .irPause_1 => .tapStep (tapBits .irPause true) false
  | .irExit2_0 => .tapStep (tapBits .irExit2 false) false
  | .irExit2_1 => .tapStep (tapBits .irExit2 true) false
  | .irUpdate_0 => .tapStep (tapBits .irUpdate false) false
  | .irUpdate_1 => .tapStep (tapBits .irUpdate true) false

/-- A word as a number with its length in bits, in whole bytes (the inverse of `frameWord`; log 9). -/
def CodeWord.tableNumber {n : Nat} : CodeWord n → Nat × Nat
  | .pinSample q => (8, 64 + 4 * q.tms.toNat + 2 * q.tck.toNat + q.tdi.toNat)
  | .tapStep bits tdi => (8, bits.toNat + 32 * tdi.toNat)
  | .irWord w => (irWordBits n, w.toNat)

end Sys2Proof
end

