-- ==== Sys2Proof/Machine/State.lean ====
section
/-! DEFINITION. The state as plain data: the six elements of 10_state.md R10 (with `sel` and `DR` as the one tagged value R13
asks for), the parameters of the instance, and the samples the host presents next. There is no memory (20_memory.md R30). -/

namespace Sys2Proof
namespace Machine

/-- `sel` and `DR` as one value: "a tagged variant carrying its own length, eliminating the risk of shifting past a register's
true bit width" (R13). The constructor is `sel`, its argument the contents of `DR` at the entry's length. -/
inductive DataReg (p : Params) where
  | bypass (v : Bits p.lenBypass)
  | idcode (v : Bits p.lenIdcode)
  | bsr (v : Bits p.lenBsr)
  | unknown (v : Bits p.lenUnknown)
deriving DecidableEq, Repr

/-- The machine. -/
structure State where
  /-- The parameters of this instance (R4): configuration, which no step writes, and on which the widths of the registers rest. The model's
  own field. -/
  params : Params
  /-- The TAP state (R11). -/
  state : TapState
  /-- The instruction register `IR`, `bits IR_WIDTH` (R12). -/
  ir : Bits params.irWidth
  /-- `sel` and `DR` (R13, R14); read them by `State.sel` and `State.dr`. -/
  reg : DataReg params
  /-- `prev_tck`, the clock level at the previous sample (R17). -/
  prevTck : Bool
  /-- `tdo`, the last driven output, which every step returns (R18). -/
  tdo : Bool
  /-- The samples the host presents next, oldest first (R7, R46). The model's own field. -/
  inputs : List PinSample
deriving DecidableEq, Repr

/-- The block "recognizes no error conditions of its own" (R135): there is no fault, so this type has no constructor and no
one raises one (safe: the spec's step is total). -/
inductive Fault where
deriving DecidableEq, Repr

/-- Refusals. -/
inductive Refusal where
  /-- Raised only by an arm of `exec` for an instruction without a meaning yet; no arm raises it (safe: the machine stops). -/
  | notModelled (mnemonic : String)
deriving DecidableEq, Repr

/-- The state after initialisation of an instance with parameters `p` (R21, R156), with no sample presented yet: `IR` all ones. `DR` is
the reload value of `Bypass`, the spec's own decision D4 (log 5). -/
def State.init (p : Params) : State where
  params := p
  state := .reset
  ir := BitVec.allOnes p.irWidth
  reg := .bypass p.bypassReload
  prevTck := p.prevTckInit
  tdo := p.tdoInit
  inputs := []

/-- The machine right after initialisation, the only reset there is (R155), with the OPEN parameters at their defaults in R4.
DESIGN CHOICE (log 1 to 4): claims about initialisation are made of `State.init p` for every `p`. -/
def State.reset : State := State.init Params.vectorDefaults

end Machine
end Sys2Proof
end

