-- ==== Sys2Proof/Machine/Operands.lean ====
section
/-! DEFINITION. The operands: the data-register bank (10_state.md R16) and the two shift registers as a scan reads and writes
them (42_shift.md R100 to R102). -/

namespace Sys2Proof

/-- `len(e)` (R16). -/
def Entry.len (p : Params) : Entry → Nat
  | .bypass => p.lenBypass
  | .idcode => p.lenIdcode
  | .bsr => p.lenBsr
  | .unknown => p.lenUnknown

/-- `reload(e)` as an unsigned number (R16, R5). -/
def Entry.reload (p : Params) : Entry → Nat
  | .bypass => p.bypassReload.toNat
  | .idcode => p.deviceId.toNat
  | .bsr => p.bsrReload.toNat
  | .unknown => p.unknownReload.toNat

namespace Machine

variable {p : Params}

/-- The data register right after entry `e` is selected: `reload(e)` at its length (R16, R117). -/
def loadEntry (p : Params) : Entry → DataReg p
  | .bypass => .bypass p.bypassReload
  | .idcode => .idcode p.deviceId
  | .bsr => .bsr p.bsrReload
  | .unknown => .unknown p.unknownReload

/-- `sel` (R13). -/
def DataReg.sel : DataReg p → Entry
  | .bypass _ => .bypass
  | .idcode _ => .idcode
  | .bsr _ => .bsr
  | .unknown _ => .unknown

/-- `DR` as an unsigned number (R5), whichever entry is selected: every bit at or above `len(sel)` is zero, as in the container of R15. -/
def DataReg.num : DataReg p → Nat
  | .bypass v => v.toNat
  | .idcode v => v.toNat
  | .bsr v => v.toNat
  | .unknown v => v.toNat

/-- `sel` of a state. -/
def State.sel (s : State) : Entry := s.reg.sel

/-- `len(sel)`, the length of the selected data register (R14). -/
def State.drLen (s : State) : Nat := s.sel.len s.params

/-- `DR` of a state, as a number. -/
def State.dr (s : State) : Nat := s.reg.num

/-- `IR` of a state, as a number. -/
def State.irNum (s : State) : Nat := s.ir.toNat

/-- `shift_N(r, tdi)` of R100, in its three parts and in their order (R103): the pre-shift bit 0 goes out, the register moves right
by one, `tdi` lands at the post-shift top. -/
def shiftReg {n : Nat} (r : BitVec n) (tdi : Bool) : Bool × BitVec n :=
  let out := r.getLsbD 0
  let t := r >>> 1
  (out, t ||| ((BitVec.ofBool tdi).setWidth n <<< (n - 1)))

/-- The shift of the selected data register at its own length (R101). -/
def DataReg.shift (r : DataReg p) (tdi : Bool) : Bool × DataReg p :=
  match r with
  | .bypass v => ((shiftReg v tdi).1, .bypass (shiftReg v tdi).2)
  | .idcode v => ((shiftReg v tdi).1, .idcode (shiftReg v tdi).2)
  | .bsr v => ((shiftReg v tdi).1, .bsr (shiftReg v tdi).2)
  | .unknown v => ((shiftReg v tdi).1, .unknown (shiftReg v tdi).2)

end Machine
end Sys2Proof
end

