-- ==== Sys2Proof/Machine/Flags.lean ====
section
/-! DEFINITION. The two one-bit latches, "this block's analogue of flags" (10_state.md section 5): `prev_tck` with the edge test of
40_edge_detector.md, and `tdo`. -/

namespace Sys2Proof
namespace Machine

/-- `edge <- (prev_tck = 0) and (tck = 1)` (R60). -/
def risingEdge (prevTck tck : Bool) : Bool := !prevTck && tck

/-- `prev_tck <- tck`, at every step (R61). -/
def State.rememberTck (tck : Bool) (s : State) : State := { s with prevTck := tck }

/-- `tdo <- b`: only a shift drives the output; every other step keeps it (R18). -/
def State.driveTdo (b : Bool) (s : State) : State := { s with tdo := b }

end Machine
end Sys2Proof
end

