-- ==== Sys2Proof/Machine/Ops.lean ====
section
/-! DEFINITION. The shared operations: the transition table, the register writes, the commit, the forced load, the shifts, and
presenting and fetching a sample. The block has no exception, so there is no operation that takes one or returns from one
(60_exceptions.md R135, R140). -/

namespace Sys2Proof
namespace Machine

/-- `next(s, tms)`: the transition table of R70. -/
def nextState : TapState → Bool → TapState
  | .reset, false => .idle
  | .reset, true => .reset
  | .idle, false => .idle
  | .idle, true => .drScan
  | .drScan, false => .drCapture
  | .drScan, true => .irScan
  | .drCapture, false => .drShift
  | .drCapture, true => .drExit1
  | .drShift, false => .drShift
  | .drShift, true => .drExit1
  | .drExit1, false => .drPause
  | .drExit1, true => .drUpdate
  | .drPause, false => .drPause
  | .drPause, true => .drExit2
  | .drExit2, false => .drShift
  | .drExit2, true => .drUpdate
  | .drUpdate, false => .idle
  | .drUpdate, true => .drScan
  | .irScan, false => .irCapture
  | .irScan, true => .reset
  | .irCapture, false => .irShift
  | .irCapture, true => .irExit1
  | .irShift, false => .irShift
  | .irShift, true => .irExit1
  | .irExit1, false => .irPause
  | .irExit1, true => .irUpdate
  | .irPause, false => .irPause
  | .irPause, true => .irExit2
  | .irExit2, false => .irShift
  | .irExit2, true => .irUpdate
  | .irUpdate, false => .idle
  | .irUpdate, true => .drScan

/-- `state <- n` (R11). -/
def State.goto (n : TapState) (s : State) : State := { s with state := n }

/-- `sel <- e; DR <- reload(e)`: the commit of entry `e` (R117). `IR` and `tdo` keep their values. -/
def State.select (e : Entry) (s : State) : State := { s with reg := loadEntry s.params e }

/-- `IR <- w`: a parallel load (R12, R34). -/
def State.loadIr (s : State) (w : Bits s.params.irWidth) : State := { s with ir := w }

/-- The forced load on leaving `Reset`: `IR <- OPC_IDCODE; sel <- Idcode; DR <- DEVICE_ID` (R74). It does not go through `decode`
(R124). -/
def State.forceIdcode (s : State) : State := (s.loadIr s.params.opcIdcode).select .idcode

/-- The IR shift of R102. -/
def State.shiftIr (tdi : Bool) (s : State) : State :=
  let o := shiftReg s.ir tdi
  { s with ir := o.2 }.driveTdo o.1

/-- The DR shift of R101. -/
def State.shiftDr (tdi : Bool) (s : State) : State :=
  let o := s.reg.shift tdi
  { s with reg := o.2 }.driveTdo o.1

/-- The host presents one sample, ahead of any others still waiting (R46). -/
def State.present (q : PinSample) (s : State) : State := { s with inputs := q :: s.inputs }

/-- Fetching: the next sample presented, the argument of one step, and the machine with that sample taken; nothing when the
host presents none (R7). -/
def State.fetch (s : State) : Option (PinSample × State) :=
  match s.inputs with
  | [] => none
  | q :: rest => some (q, { s with inputs := rest })

/-- The machine at which the very next sample performs the word `c`: for a pin sample, it is presented; for a `TAPSTEP` word, the
state is the word's, the clock was low and the sample is an edge with the word's `tms` and `tdi`; for an `IRWORD`, `IR` holds it and
the edge is the one that commits it, `IrExit1.1` (R86, R116). Only what the fetch needs is changed (log 8). -/
def State.withWord (s : State) (c : CodeWord s.params.irWidth) : State :=
  match c with
  | .pinSample q => s.present q
  | .tapStep bits tdi =>
    { s with state := TapState.ofNum (bits.extractLsb' 1 4), prevTck := false }.present ⟨bits.getLsbD 0, true, tdi⟩
  | .irWord w => { s with state := .irExit1, ir := w, prevTck := false }.present ⟨true, true, false⟩

end Machine
end Sys2Proof
end

