-- ==== Sys2Proof/Machine/TapDr.lean ====
section
/-! DEFINITION. The DR column: the `TAPSTEP` operations of `DrScan`, `DrCapture`, `DrShift`, `DrExit1`, `DrPause`, `DrExit2`, `DrUpdate` (41_tap_fsm.md section 3). Each is what an edge
taken in that state with that `tms` does to the state, the registers and `tdo`; `prev_tck` is the step's (R72). -/

namespace Sys2Proof
namespace Machine

/-- `DrScan.0`: to `DrCapture`; no register changes (R76). -/
def execDrScan_0 (s : State) : Host.Outcome State Fault Refusal := .next (s.goto .drCapture)

/-- `DrScan.1`: to `IrScan`; no register changes (R76). -/
def execDrScan_1 (s : State) : Host.Outcome State Fault Refusal := .next (s.goto .irScan)

/-- `DrCapture.0`: to `DrShift`; no register changes (R77). -/
def execDrCapture_0 (s : State) : Host.Outcome State Fault Refusal := .next (s.goto .drShift)

/-- `DrCapture.1`: to `DrExit1`; no register changes (R77). -/
def execDrCapture_1 (s : State) : Host.Outcome State Fault Refusal := .next (s.goto .drExit1)

/-- `DrShift.0`: shift the selected data register, then `DrShift` (R78). -/
def execDrShift_0 (tdi : Bool) (s : State) : Host.Outcome State Fault Refusal := .next ((s.shiftDr tdi).goto .drShift)

/-- `DrShift.1`: shift the selected data register, then `DrExit1` (R78). -/
def execDrShift_1 (tdi : Bool) (s : State) : Host.Outcome State Fault Refusal := .next ((s.shiftDr tdi).goto .drExit1)

/-- `DrExit1.0`: to `DrPause`; no register changes (R79). -/
def execDrExit1_0 (s : State) : Host.Outcome State Fault Refusal := .next (s.goto .drPause)

/-- `DrExit1.1`: to `DrUpdate`; no register changes (R79). -/
def execDrExit1_1 (s : State) : Host.Outcome State Fault Refusal := .next (s.goto .drUpdate)

/-- `DrPause.0`: to `DrPause`; no register changes (R80). -/
def execDrPause_0 (s : State) : Host.Outcome State Fault Refusal := .next (s.goto .drPause)

/-- `DrPause.1`: to `DrExit2`; no register changes (R80). -/
def execDrPause_1 (s : State) : Host.Outcome State Fault Refusal := .next (s.goto .drExit2)

/-- `DrExit2.0`: to `DrShift`; no register changes (R81). -/
def execDrExit2_0 (s : State) : Host.Outcome State Fault Refusal := .next (s.goto .drShift)

/-- `DrExit2.1`: to `DrUpdate`; no register changes (R81). -/
def execDrExit2_1 (s : State) : Host.Outcome State Fault Refusal := .next (s.goto .drUpdate)

/-- `DrUpdate.0`: to `Idle`; no register changes (R82). -/
def execDrUpdate_0 (s : State) : Host.Outcome State Fault Refusal := .next (s.goto .idle)

/-- `DrUpdate.1`: to `DrScan`; no register changes (R82). -/
def execDrUpdate_1 (s : State) : Host.Outcome State Fault Refusal := .next (s.goto .drScan)

end Machine
end Sys2Proof
end

