-- ==== Sys2Proof/Machine/IrWord.lean ====
section
/-! DEFINITION. The five JTAG instructions (format `IRWORD`, 43_ir_decode.md). The effect of each is its commit: `sel` and `DR`
change, nothing else does (R117). -/

namespace Sys2Proof
namespace Machine

/-- BYPASS: `sel <- Bypass, DR <- 0`, where 0 is `BYPASS_RELOAD`; the data register is 1 bit long (R119, R4). -/
def execBypass (s : State) : Host.Outcome State Fault Refusal := .next (s.select .bypass)

/-- IDCODE: `sel <- Idcode, DR <- DEVICE_ID` (R120). -/
def execIdcode (s : State) : Host.Outcome State Fault Refusal := .next (s.select .idcode)

/-- EXTEST: `sel <- Bsr, DR <- BSR_RELOAD`; no pin is driven (R121). -/
def execExtest (s : State) : Host.Outcome State Fault Refusal := .next (s.select .bsr)

/-- SAMPLE: identical to EXTEST; nothing is sampled (R122). -/
def execSample (s : State) : Host.Outcome State Fault Refusal := .next (s.select .bsr)

/-- Any other opcode: `sel <- Unknown, DR <- UNKNOWN_RELOAD`; "All such opcodes behave alike" (R123). -/
def execUnknown (_opcode : Nat) (s : State) : Host.Outcome State Fault Refusal := .next (s.select .unknown)

/-- The meaning of the opcode class a commit has decoded. -/
def execIrOp (o : IrOp) (s : State) : Host.Outcome State Fault Refusal :=
  match o with
  | .bypass => execBypass s
  | .idcode => execIdcode s
  | .extest => execExtest s
  | .sample => execSample s
  | .unknown w => execUnknown w s

/-- The commit on the edge that enters `IrUpdate`: decode `IR` and perform the instruction (R116, R117). -/
def commitIr (s : State) : Host.Outcome State Fault Refusal := execIrOp (irOp s.params s.ir) s

end Machine
end Sys2Proof
end

