-- ==== Sys2Proof/Machine/TapIr.lean ====
section
/-! DEFINITION. The IR column: the `TAPSTEP` operations of `IrScan`, `IrCapture`, `IrShift`, `IrExit1`, `IrPause`, `IrExit2`, `IrUpdate` (41_tap_fsm.md section 3). Each is what an edge
taken in that state with that `tms` does to the state, the registers and `tdo`; `prev_tck` is the step's (R72). -/

namespace Sys2Proof
namespace Machine

/-- `IrScan.0`: to `IrCapture`; no register changes (R83). -/
def execIrScan_0 (s : State) : Host.Outcome State Fault Refusal := .next (s.goto .irCapture)

/-- `IrScan.1`: to `Reset`; no register changes (R83). -/
def execIrScan_1 (s : State) : Host.Outcome State Fault Refusal := .next (s.goto .reset)

/-- `IrCapture.0`: to `IrShift`; no register changes (R84). -/
def execIrCapture_0 (s : State) : Host.Outcome State Fault Refusal := .next (s.goto .irShift)

/-- `IrCapture.1`: to `IrExit1`; no register changes (R84). -/
def execIrCapture_1 (s : State) : Host.Outcome State Fault Refusal := .next (s.goto .irExit1)

/-- `IrShift.0`: shift `IR`, then `IrShift` (R85). -/
def execIrShift_0 (tdi : Bool) (s : State) : Host.Outcome State Fault Refusal := .next ((s.shiftIr tdi).goto .irShift)

/-- `IrShift.1`: shift `IR`, then `IrExit1` (R85). -/
def execIrShift_1 (tdi : Bool) (s : State) : Host.Outcome State Fault Refusal := .next ((s.shiftIr tdi).goto .irExit1)

/-- `IrExit1.0`: to `IrPause`; no register changes (R86). -/
def execIrExit1_0 (s : State) : Host.Outcome State Fault Refusal := .next (s.goto .irPause)

/-- `IrExit1.1`: the commit, on the edge that enters `IrUpdate` (R86). -/
def execIrExit1_1 (s : State) : Host.Outcome State Fault Refusal := commitIr (s.goto .irUpdate)

/-- `IrPause.0`: to `IrPause`; no register changes (R87). -/
def execIrPause_0 (s : State) : Host.Outcome State Fault Refusal := .next (s.goto .irPause)

/-- `IrPause.1`: to `IrExit2`; no register changes (R87). -/
def execIrPause_1 (s : State) : Host.Outcome State Fault Refusal := .next (s.goto .irExit2)

/-- `IrExit2.0`: to `IrShift`; no register changes (R88). -/
def execIrExit2_0 (s : State) : Host.Outcome State Fault Refusal := .next (s.goto .irShift)

/-- `IrExit2.1`: the commit, on the edge that enters `IrUpdate` (R88). -/
def execIrExit2_1 (s : State) : Host.Outcome State Fault Refusal := commitIr (s.goto .irUpdate)

/-- `IrUpdate.0`: to `Idle`; no register changes (R89). -/
def execIrUpdate_0 (s : State) : Host.Outcome State Fault Refusal := .next (s.goto .idle)

/-- `IrUpdate.1`: to `DrScan`; no register changes (R89). -/
def execIrUpdate_1 (s : State) : Host.Outcome State Fault Refusal := .next (s.goto .drScan)

end Machine
end Sys2Proof
end

