-- ==== Sys2Proof/Machine/TapReset.lean ====
section
/-! DEFINITION. Reset and Idle: the `TAPSTEP` operations of `Reset`, `Idle` (41_tap_fsm.md section 3). Each is what an edge
taken in that state with that `tms` does to the state, the registers and `tdo`; `prev_tck` is the step's (R72). -/

namespace Sys2Proof
namespace Machine

/-- `Reset.0`: the forced load, then `Idle` (R74). -/
def execReset_0 (s : State) : Host.Outcome State Fault Refusal := .next (s.forceIdcode.goto .idle)

/-- `Reset.1`: to `Reset`; no register changes (R74). -/
def execReset_1 (s : State) : Host.Outcome State Fault Refusal := .next (s.goto .reset)

/-- `Idle.0`: to `Idle`; no register changes (R75). -/
def execIdle_0 (s : State) : Host.Outcome State Fault Refusal := .next (s.goto .idle)

/-- `Idle.1`: to `DrScan`; no register changes (R75). -/
def execIdle_1 (s : State) : Host.Outcome State Fault Refusal := .next (s.goto .drScan)

end Machine
end Sys2Proof
end

