-- ==== Sys2Proof/Machine/Pins.lean ====
section
/-! DEFINITION. `STEP`, the one operation of the interface: the edge detector, then on an edge the operation selected by the pair
(`state`, `tms`) (R72). -/

namespace Sys2Proof
namespace Machine

/-- The meaning of the operation an edge performs, by state and `tms` (R51). -/
def execTapOp (st : TapState) (tms tdi : Bool) (s : State) : Host.Outcome State Fault Refusal :=
  match st, tms with
  | .reset, false => execReset_0 s
  | .reset, true => execReset_1 s
  | .idle, false => execIdle_0 s
  | .idle, true => execIdle_1 s
  | .drScan, false => execDrScan_0 s
  | .drScan, true => execDrScan_1 s
  | .drCapture, false => execDrCapture_0 s
  | .drCapture, true => execDrCapture_1 s
  | .drShift, false => execDrShift_0 tdi s
  | .drShift, true => execDrShift_1 tdi s
  | .drExit1, false => execDrExit1_0 s
  | .drExit1, true => execDrExit1_1 s
  | .drPause, false => execDrPause_0 s
  | .drPause, true => execDrPause_1 s
  | .drExit2, false => execDrExit2_0 s
  | .drExit2, true => execDrExit2_1 s
  | .drUpdate, false => execDrUpdate_0 s
  | .drUpdate, true => execDrUpdate_1 s
  | .irScan, false => execIrScan_0 s
  | .irScan, true => execIrScan_1 s
  | .irCapture, false => execIrCapture_0 s
  | .irCapture, true => execIrCapture_1 s
  | .irShift, false => execIrShift_0 tdi s
  | .irShift, true => execIrShift_1 tdi s
  | .irExit1, false => execIrExit1_0 s
  | .irExit1, true => execIrExit1_1 s
  | .irPause, false => execIrPause_0 s
  | .irPause, true => execIrPause_1 s
  | .irExit2, false => execIrExit2_0 s
  | .irExit2, true => execIrExit2_1 s
  | .irUpdate, false => execIrUpdate_0 s
  | .irUpdate, true => execIrUpdate_1 s

/-- `step(tms, tck, tdi)`: the level is remembered at every sample; only a rising edge performs an operation, the one of the state
before the edge (R72). The value the call returns is `tdo` of the next state. -/
def execStep (tms tck tdi : Bool) (s : State) : Host.Outcome State Fault Refusal :=
  if risingEdge s.prevTck tck then execTapOp s.state tms tdi (s.rememberTck tck)
  else .next (s.rememberTck tck)

end Machine
end Sys2Proof
end

