-- ==== Sys2Proof/Machine/Dispatch.lean ====
section
/-! DEFINITION. The dispatch: one arm per constructor of `Instr`. -/

namespace Sys2Proof
namespace Machine

/-- What an instruction does. -/
def exec (i : Instr) (s : State) : Host.Outcome State Fault Refusal :=
  match i with
  | .step tms tck tdi => Sys2Proof.Machine.execStep tms tck tdi s
  | .bypass => Sys2Proof.Machine.execBypass s
  | .idcode => Sys2Proof.Machine.execIdcode s
  | .extest => Sys2Proof.Machine.execExtest s
  | .sample => Sys2Proof.Machine.execSample s
  | .unknown opcode => Sys2Proof.Machine.execUnknown opcode s
  | .reset_0 => Sys2Proof.Machine.execReset_0 s
  | .reset_1 => Sys2Proof.Machine.execReset_1 s
  | .idle_0 => Sys2Proof.Machine.execIdle_0 s
  | .idle_1 => Sys2Proof.Machine.execIdle_1 s
  | .drScan_0 => Sys2Proof.Machine.execDrScan_0 s
  | .drScan_1 => Sys2Proof.Machine.execDrScan_1 s
  | .drCapture_0 => Sys2Proof.Machine.execDrCapture_0 s
  | .drCapture_1 => Sys2Proof.Machine.execDrCapture_1 s
  | .drShift_0 tdi => Sys2Proof.Machine.execDrShift_0 tdi s
  | .drShift_1 tdi => Sys2Proof.Machine.execDrShift_1 tdi s
  | .drExit1_0 => Sys2Proof.Machine.execDrExit1_0 s
  | .drExit1_1 => Sys2Proof.Machine.execDrExit1_1 s
  | .drPause_0 => Sys2Proof.Machine.execDrPause_0 s
  | .drPause_1 => Sys2Proof.Machine.execDrPause_1 s
  | .drExit2_0 => Sys2Proof.Machine.execDrExit2_0 s
  | .drExit2_1 => Sys2Proof.Machine.execDrExit2_1 s
  | .drUpdate_0 => Sys2Proof.Machine.execDrUpdate_0 s
  | .drUpdate_1 => Sys2Proof.Machine.execDrUpdate_1 s
  | .irScan_0 => Sys2Proof.Machine.execIrScan_0 s
  | .irScan_1 => Sys2Proof.Machine.execIrScan_1 s
  | .irCapture_0 => Sys2Proof.Machine.execIrCapture_0 s
  | .irCapture_1 => Sys2Proof.Machine.execIrCapture_1 s
  | .irShift_0 tdi => Sys2Proof.Machine.execIrShift_0 tdi s
  | .irShift_1 tdi => Sys2Proof.Machine.execIrShift_1 tdi s
  | .irExit1_0 => Sys2Proof.Machine.execIrExit1_0 s
  | .irExit1_1 => Sys2Proof.Machine.execIrExit1_1 s
  | .irPause_0 => Sys2Proof.Machine.execIrPause_0 s
  | .irPause_1 => Sys2Proof.Machine.execIrPause_1 s
  | .irExit2_0 => Sys2Proof.Machine.execIrExit2_0 s
  | .irExit2_1 => Sys2Proof.Machine.execIrExit2_1 s
  | .irUpdate_0 => Sys2Proof.Machine.execIrUpdate_0 s
  | .irUpdate_1 => Sys2Proof.Machine.execIrUpdate_1 s

end Machine
end Sys2Proof
end

