-- ==== Sys2Proof/Machine/Step.lean ====
section
/-! DEFINITION. One step of the machine: fetch the sample the host presents, decode it, execute it. -/

namespace Sys2Proof
namespace Machine

/-- One step. Where the host presents no sample nothing happens: "there are no spontaneous transitions" (R7, R138; log 6). -/
def step (s : State) : Host.Outcome State Fault Refusal :=
  match s.fetch with
  | none => .next s
  | some (q, s') => exec (decode s'.params (.pinSample q)) s'

/-- `s` placed so that the very next step performs the table word (`nbits`, `w`) (log 6, 8); `s` itself where that is no word. -/
def State.withFetchWord (s : State) (nbits w : Nat) : State :=
  match frameWord s.params.irWidth nbits w with
  | .ok c => s.withWord c
  | .error _ => s

end Machine
end Sys2Proof
end

