-- ==== Sys2Proof/Machine/Reference.lean ====
section
/-! DEFINITION. The spec's whole step, R72, transcribed as it stands: over six separate elements, the registers as unsigned numbers (R5) with `DR`
zero at and above `len(sel)` (R15), in the order of its assignments. `step` does not use it; claims compare the machine with it. -/

namespace Sys2Proof
namespace Machine

/-- The six elements of R10 as R72 writes them. -/
structure Elements where
  state : TapState
  ir : Nat
  sel : Entry
  dr : Nat
  prevTck : Bool
  tdo : Bool
deriving DecidableEq, Repr

/-- The six elements of a machine state. -/
def State.elements (s : State) : Elements where
  state := s.state
  ir := s.irNum
  sel := s.sel
  dr := s.dr
  prevTck := s.prevTck
  tdo := s.tdo

/-- `(v >> 1) | (tdi << (len - 1))` (R72, R5). -/
def shiftInto (v : Nat) (tdi : Bool) (len : Nat) : Nat := (v >>> 1) ||| (tdi.toNat <<< (len - 1))

/-- `decode(ir)`, test by test (R115): "compared as a 16-bit unsigned value" (R47). -/
def decodeNum (p : Params) (ir : Nat) : Entry :=
  if ir = p.opcBypass.toNat then .bypass
  else if ir = p.opcIdcode.toNat then .idcode
  else if ir = p.opcExtest.toNat then .bsr
  else if ir = p.opcSample.toNat then .bsr
  else .unknown

/-- `step(tms, tck, tdi)` of R72, assignment by assignment; the value it returns is `tdo` of the result. -/
def wholeStep (p : Params) (tms tck tdi : Bool) (e0 : Elements) : Elements :=
  let edge := e0.prevTck = false ∧ tck = true
  let e1 := { e0 with prevTck := tck }
  if ¬edge then e1
  else
    let s := e1.state
    let n := nextState s tms
    let e2 :=
      if s = .reset ∧ tms = false then { e1 with ir := p.opcIdcode.toNat, sel := .idcode, dr := p.deviceId.toNat } else e1
    let e3 :=
      if s = .drShift then { e2 with tdo := e2.dr.testBit 0, dr := shiftInto e2.dr tdi (e2.sel.len p) } else e2
    let e4 :=
      if s = .irShift then { e3 with tdo := e3.ir.testBit 0, ir := shiftInto e3.ir tdi p.irWidth } else e3
    let e5 :=
      if n = .irUpdate then { e4 with sel := decodeNum p e4.ir, dr := (decodeNum p e4.ir).reload p } else e4
    { e5 with state := n }

end Machine
end Sys2Proof
end

