-- ==== Sys2Proof/Machine/Stimulus.lean ====
section
/-! DEFINITION. The stimulus notation of 30_encoding.md R55 to R57, as sample lists. It is the spec's notation for what a host presents,
"not part of the hardware". -/

namespace Sys2Proof
namespace Machine

/-- The operands of one `CLK tms tdi`. -/
structure Clk where
  tms : Bool
  tdi : Bool
deriving DecidableEq, Repr

/-- `CLK tms tdi` is `S tms 0 tdi` then `S tms 1 tdi` (R56). -/
def Clk.samples (c : Clk) : List PinSample := [⟨c.tms, false, c.tdi⟩, ⟨c.tms, true, c.tdi⟩]

/-- The bits of a vector, least significant first: the order of a scan (R32). -/
def scanBits {n : Nat} (v : Bits n) : List Bool := (List.range n).map v.getLsbD

/-- The bits of the selected data register in that order, as many as its length. -/
def State.drBits (s : State) : List Bool :=
  match s.reg with
  | .bypass v => scanBits v
  | .idcode v => scanBits v
  | .bsr v => scanBits v
  | .unknown v => scanBits v

/-- The shift edges of a scan that presents `bs` in order and leaves the shift state with the last of them (R57, R166). -/
def shiftEdges : List Bool → List Clk
  | [] => []
  | [b] => [⟨true, b⟩]
  | b :: c :: bs => ⟨false, b⟩ :: shiftEdges (c :: bs)

/-- `TLR`: five `CLK 1 x` (R57). -/
def tlr : List Clk := List.replicate 5 ⟨true, false⟩

/-- `RTI`: `CLK 0 x` (R57). -/
def rti : List Clk := [⟨false, false⟩]

/-- `IRSCAN v`: from `Idle` to `IrShift`, one shift edge for each of the `n` bits of `IR`, the commit, back to `Idle`: `n` + 6 edges, 22 in the source
(R57). -/
def irScan {n : Nat} (v : Bits n) : List Clk :=
  [⟨true, false⟩, ⟨true, false⟩, ⟨false, false⟩, ⟨false, false⟩] ++ shiftEdges (scanBits v) ++ [⟨true, false⟩, ⟨false, false⟩]

/-- `DRSCAN n v`: from `Idle` to `DrShift`, `n` shift edges, back to `Idle`: `n` + 5 edges (R57, for `n` at least 1). -/
def drScan {n : Nat} (v : Bits n) : List Clk :=
  [⟨true, false⟩, ⟨false, false⟩, ⟨false, false⟩] ++ shiftEdges (scanBits v) ++ [⟨true, false⟩, ⟨false, false⟩]

end Machine
end Sys2Proof
end

