-- ==== Sys2Proof/Safety.lean ====
section
/-! DEFINITION. The terms claims are stated in: what a host observes of a run (00_scope.md R7, D20), the invariants, and the columns of the
state graph. Every run is safe: no step stops (60_exceptions.md R135). -/

namespace Sys2Proof
namespace Machine

/-- What a host that presents `qs`, one sample a call, observes: the returned `tdo` values in order, and the state it ends in; nothing
where a step stops (none does). -/
def observe : List PinSample → State → Option (List Bool × State)
  | [], s => some ([], s)
  | q :: qs, s =>
    match step (s.present q) with
    | .next t => (observe qs t).map fun r => (t.tdo :: r.1, r.2)
    | .fault _ => none
    | .refused _ => none

/-- What a host that presents `CLK` pairs observes: of each pair, the value its second sample returns (R56). -/
def clock : List Clk → State → Option (List Bool × State)
  | [], s => some ([], s)
  | c :: cs, s =>
    match observe c.samples s with
    | some ([_, out], t) => (clock cs t).map fun r => (out :: r.1, r.2)
    | _ => none

/-- The states in which `IR` may differ from the committed opcode: an IR scan is under way (spec 95, V2.1). -/
def midIrScan : TapState → Bool
  | .irShift | .irExit1 | .irPause | .irExit2 => true
  | .reset | .idle | .drScan | .drCapture | .drShift | .drExit1 | .drPause | .drExit2 | .drUpdate => false
  | .irScan | .irCapture | .irUpdate => false

/-- The selection is the decode of `IR`, except in the middle of an IR scan (R22 (c), R42). -/
def State.selectionCoherent (s : State) : Prop :=
  midIrScan s.state = false → s.sel = decodeEntry s.params s.ir

/-- The DR column of R91 (c). -/
def inDrColumn : TapState → Bool
  | .drCapture | .drShift | .drExit1 | .drPause | .drExit2 | .drUpdate => true
  | .reset | .idle | .drScan | .irScan => false
  | .irCapture | .irShift | .irExit1 | .irPause | .irExit2 | .irUpdate => false

/-- The IR column of R91 (c). -/
def inIrColumn : TapState → Bool
  | .irCapture | .irShift | .irExit1 | .irPause | .irExit2 | .irUpdate => true
  | .reset | .idle | .drScan | .irScan => false
  | .drCapture | .drShift | .drExit1 | .drPause | .drExit2 | .drUpdate => false

/-- The number of edges with `tms` = 1 from each state to `Reset` (R90). -/
def edgesToReset : TapState → Nat
  | .reset => 0
  | .irScan => 1
  | .drScan => 2
  | .idle | .drUpdate | .irUpdate => 3
  | .drExit1 | .drExit2 | .irExit1 | .irExit2 => 4
  | .drCapture | .drShift | .drPause | .irCapture | .irShift | .irPause => 5

/-- The state an outcome gives, if it gives one (for tests that `decide`). -/
def nextOf (o : Host.Outcome State Fault Refusal) : Option State :=
  match o with
  | .next t => some t
  | .fault _ => none
  | .refused _ => none

end Machine
end Sys2Proof
end

