-- ==== Sys2Proof/Certificates/Slice0/Obligations.lean ====
section
/-! DEFINITION. The statements for the provers, family by family: initialisation, the detector and the step, the `TAPSTEP` rows, the `IRWORD`
rows, who writes what, the invariants, the encodings, and laws over many edges, the parameters. The block has no memory, no exception register and no mode
(R30, R135, R141), so no frame speaks of one. -/

open Sys2Proof Sys2Proof.Machine

-- Initialisation.

/-- R21, R156: every element after initialisation, for every value of the parameters: `IR` all ones (0xFFFF in the source).
That `DR` is the reload value of `Bypass` (0 in the source) is the spec's own decision D4 (log 5), that no sample is waiting is the model's (log 6). -/
def Obligations.InitialisationSetsEveryElement : Prop :=
  ∀ p : Params,
    (State.init p).elements =
        { state := .reset, ir := 2 ^ p.irWidth - 1, sel := .bypass, dr := p.bypassReload.toNat,
          prevTck := p.prevTckInit, tdo := p.tdoInit } ∧
      (State.init p).params = p ∧ (State.init p).inputs = []

-- The edge detector and the step.

/-- R60, R61: a step is an edge exactly when the clock was low and is high; every step remembers the level. -/
def Obligations.EdgeIsLowThenHighAndTheLevelIsRemembered : Prop :=
  ∀ (tms tck tdi : Bool) (s : State),
    (risingEdge s.prevTck tck = true ↔ s.prevTck = false ∧ tck = true) ∧
      ∃ t, exec (.step tms tck tdi) s = .next t ∧ t.prevTck = tck

/-- R62: a step that is not an edge changes only `prev_tck`; an edge performs exactly one operation, that of (`state`, `tms`). -/
def Obligations.NonEdgeIsANoOpAndAnEdgeIsOneOperation : Prop :=
  ∀ (tms tck tdi : Bool) (s : State),
    (¬(s.prevTck = false ∧ tck = true) → exec (.step tms tck tdi) s = .next { s with prevTck := tck }) ∧
      (s.prevTck = false ∧ tck = true →
        exec (.step tms tck tdi) s = exec (tapInstr s.state tms tdi) { s with prevTck := true })

/-- A step executes the decoded sample with that sample taken from the queue; an edge executes the decoded `TAPSTEP` word of (`state`, `tms`);
a commit executes the decoded `IRWORD` in `IR`, with `state` at `IrUpdate`. That the edge entering `IrUpdate` is the one that decodes is the spec's
own reading D6 (R73; log 11). Where no sample waits a step changes nothing (the model's choice, log 6). That the two rows commit in a state other than their own too is log 7. -/
def Obligations.AStepRunsTheDecodedInstruction : Prop :=
  (∀ (q : PinSample) (rest : List PinSample) (s : State), s.inputs = q :: rest →
      step s = exec (decode s.params (.pinSample q)) { s with inputs := rest }) ∧
    (∀ (tms tdi : Bool) (s : State), s.prevTck = false →
      exec (.step tms true tdi) s =
        exec (decode s.params (.tapStep (tapBits s.state tms) tdi)) { s with prevTck := true }) ∧
    (∀ s : State, exec .irExit1_1 s = exec (decode s.params (.irWord s.ir)) { s with state := .irUpdate } ∧
      exec .irExit2_1 s = exec (decode s.params (.irWord s.ir)) { s with state := .irUpdate }) ∧
    (∀ s : State, s.inputs = [] → step s = .next s)

/-- R135: every step, and every instruction in every state, answers a next state. That a model has no other outcome is the spec's own decision D18; that
a step with no sample waiting answers one is the model's choice (log 6); that a row performed in a state other than its own answers one is the
model's reading (log 7). -/
def Obligations.EveryStepAndInstructionAnswersANextState : Prop :=
  (∀ s : State, ∃ t, step s = .next t) ∧ ∀ (i : Instr) (s : State), ∃ t, exec i s = .next t

/-- R72: `STEP` completes in every state and does to the six elements what the spec's whole-step pseudocode does, the registers as unsigned
numbers. The commit in that pseudocode rests on the spec's own decisions: that it reloads `DR` is D5 (R117; log 10), that the edge entering
`IrUpdate` does it is D6 (R73; log 11). -/
def Obligations.StepRefinesTheWholeStepPseudocode : Prop :=
  ∀ (tms tck tdi : Bool) (s : State), ∃ t,
    exec (.step tms tck tdi) s = .next t ∧ t.elements = wholeStep s.params tms tck tdi s.elements ∧
      t.params = s.params ∧ t.inputs = s.inputs

-- The TAPSTEP rows: encoding, completion, effect and frame. Each statement is of every state: performed alone, a row does not test that the state is
-- its own (log 7; `AStepRunsTheDecodedInstruction` says that a step performs it only there). The five bits are the spec's own notation (D10; log 9).

/-- R74: the rows of `Reset`, in terms of the parameters `OPC_IDCODE` and `DEVICE_ID` (0x0004 and 0x89BEEF01 in the source).
The five bits are the spec's notation (D10; log 9); that a row does the same in a state other than its own is log 7. -/
def Obligations.LeavingResetForcesIdcode : Prop :=
  ∀ (p : Params) (tdi : Bool) (s : State),
    (decode p (.tapStep 0b00000#5 tdi) = .reset_0 ∧
      exec .reset_0 s = .next { s with state := .idle, ir := s.params.opcIdcode, reg := .idcode s.params.deviceId }) ∧
    (decode p (.tapStep 0b00001#5 tdi) = .reset_1 ∧ exec .reset_1 s = .next { s with state := .reset })

/-- R75 to R77, R79 to R82: the rows of `Idle` and of the DR column that change no register.
The five bits are the spec's notation (D10; log 9); that a row does the same in a state other than its own is log 7. -/
def Obligations.IdleAndDrRowsOnlyMove : Prop :=
  ∀ (p : Params) (tdi : Bool) (s : State),
    (decode p (.tapStep 0b00010#5 tdi) = .idle_0 ∧ exec .idle_0 s = .next { s with state := .idle }) ∧
    (decode p (.tapStep 0b00011#5 tdi) = .idle_1 ∧ exec .idle_1 s = .next { s with state := .drScan }) ∧
    (decode p (.tapStep 0b00100#5 tdi) = .drScan_0 ∧ exec .drScan_0 s = .next { s with state := .drCapture }) ∧
    (decode p (.tapStep 0b00101#5 tdi) = .drScan_1 ∧ exec .drScan_1 s = .next { s with state := .irScan }) ∧
    (decode p (.tapStep 0b00110#5 tdi) = .drCapture_0 ∧ exec .drCapture_0 s = .next { s with state := .drShift }) ∧
    (decode p (.tapStep 0b00111#5 tdi) = .drCapture_1 ∧ exec .drCapture_1 s = .next { s with state := .drExit1 }) ∧
    (decode p (.tapStep 0b01010#5 tdi) = .drExit1_0 ∧ exec .drExit1_0 s = .next { s with state := .drPause }) ∧
    (decode p (.tapStep 0b01011#5 tdi) = .drExit1_1 ∧ exec .drExit1_1 s = .next { s with state := .drUpdate }) ∧
    (decode p (.tapStep 0b01100#5 tdi) = .drPause_0 ∧ exec .drPause_0 s = .next { s with state := .drPause }) ∧
    (decode p (.tapStep 0b01101#5 tdi) = .drPause_1 ∧ exec .drPause_1 s = .next { s with state := .drExit2 }) ∧
    (decode p (.tapStep 0b01110#5 tdi) = .drExit2_0 ∧ exec .drExit2_0 s = .next { s with state := .drShift }) ∧
    (decode p (.tapStep 0b01111#5 tdi) = .drExit2_1 ∧ exec .drExit2_1 s = .next { s with state := .drUpdate }) ∧
    (decode p (.tapStep 0b10000#5 tdi) = .drUpdate_0 ∧ exec .drUpdate_0 s = .next { s with state := .idle }) ∧
    (decode p (.tapStep 0b10001#5 tdi) = .drUpdate_1 ∧ exec .drUpdate_1 s = .next { s with state := .drScan })

/-- R83, R84, R87, R89: the rows of the IR column that change no register. The rows of `IrUpdate` are the spec's only through its decision D6:
that the edge taken in `IrUpdate` does not decode is its own reading (R73; log 11).
The five bits are the spec's notation (D10; log 9); that a row does the same in a state other than its own is log 7. -/
def Obligations.IrRowsThatOnlyMove : Prop :=
  ∀ (p : Params) (tdi : Bool) (s : State),
    (decode p (.tapStep 0b10010#5 tdi) = .irScan_0 ∧ exec .irScan_0 s = .next { s with state := .irCapture }) ∧
    (decode p (.tapStep 0b10011#5 tdi) = .irScan_1 ∧ exec .irScan_1 s = .next { s with state := .reset }) ∧
    (decode p (.tapStep 0b10100#5 tdi) = .irCapture_0 ∧ exec .irCapture_0 s = .next { s with state := .irShift }) ∧
    (decode p (.tapStep 0b10101#5 tdi) = .irCapture_1 ∧ exec .irCapture_1 s = .next { s with state := .irExit1 }) ∧
    (decode p (.tapStep 0b11010#5 tdi) = .irPause_0 ∧ exec .irPause_0 s = .next { s with state := .irPause }) ∧
    (decode p (.tapStep 0b11011#5 tdi) = .irPause_1 ∧ exec .irPause_1 s = .next { s with state := .irExit2 }) ∧
    (decode p (.tapStep 0b11110#5 tdi) = .irUpdate_0 ∧ exec .irUpdate_0 s = .next { s with state := .idle }) ∧
    (decode p (.tapStep 0b11111#5 tdi) = .irUpdate_1 ∧ exec .irUpdate_1 s = .next { s with state := .drScan })

/-- R78: the rows of `DrShift`, in terms of `DR` as a number and the length of the selected entry.
The five bits are the spec's notation (D10; log 9); that a row does the same in a state other than its own is log 7. -/
def Obligations.DrShiftRowsShiftTheSelectedRegister : Prop :=
  ∀ (p : Params) (tdi : Bool) (s : State),
    decode p (.tapStep 0b01000#5 tdi) = .drShift_0 tdi ∧ decode p (.tapStep 0b01001#5 tdi) = .drShift_1 tdi ∧
      ∃ t0 t1,
        exec (.drShift_0 tdi) s = .next t0 ∧ exec (.drShift_1 tdi) s = .next t1 ∧
          t0.elements =
            { s.elements with
              state := .drShift
              tdo := s.dr.testBit 0
              dr := (s.dr >>> 1) ||| (tdi.toNat <<< (s.sel.len s.params - 1)) } ∧
          t1 = { t0 with state := .drExit1 } ∧ t0.params = s.params ∧ t0.inputs = s.inputs

/-- R85: the rows of `IrShift`, at the width of `IR` (in the source 16, so `tdi` lands at bit 15).
The five bits are the spec's notation (D10; log 9); that a row does the same in a state other than its own is log 7. -/
def Obligations.IrShiftRowsShiftTheInstructionRegister : Prop :=
  ∀ (p : Params) (tdi : Bool) (s : State),
    (decode p (.tapStep 0b10110#5 tdi) = .irShift_0 tdi ∧
      exec (.irShift_0 tdi) s =
        .next { s with
          state := .irShift
          tdo := s.ir.getLsbD 0
          ir := (s.ir >>> 1) ||| ((BitVec.ofBool tdi).setWidth s.params.irWidth <<< (s.params.irWidth - 1)) }) ∧
    (decode p (.tapStep 0b10111#5 tdi) = .irShift_1 tdi ∧
      exec (.irShift_1 tdi) s =
        .next { s with
          state := .irExit1
          tdo := s.ir.getLsbD 0
          ir := (s.ir >>> 1) ||| ((BitVec.ofBool tdi).setWidth s.params.irWidth <<< (s.params.irWidth - 1)) })

/-- R86, R88: the rows of `IrExit1` and `IrExit2`; with `tms` = 1 they are the commit. That a commit puts the reload value into `DR` is the spec's own
reading D5 (R117; log 10), that the edge entering `IrUpdate` performs it is D6 (R73; log 11).
The five bits are the spec's notation (D10; log 9); that a row does the same in a state other than its own is log 7. -/
def Obligations.IrExitRowsCommitOnTheWayToIrUpdate : Prop :=
  ∀ (p : Params) (tdi : Bool) (s : State),
    (decode p (.tapStep 0b11000#5 tdi) = .irExit1_0 ∧ exec .irExit1_0 s = .next { s with state := .irPause }) ∧
    (decode p (.tapStep 0b11100#5 tdi) = .irExit2_0 ∧ exec .irExit2_0 s = .next { s with state := .irShift }) ∧
    decode p (.tapStep 0b11001#5 tdi) = .irExit1_1 ∧ decode p (.tapStep 0b11101#5 tdi) = .irExit2_1 ∧
      ∃ t, exec .irExit1_1 s = .next t ∧ exec .irExit2_1 s = .next t ∧
        t.elements =
          { s.elements with
            state := .irUpdate
            sel := decodeEntry s.params s.ir
            dr := (decodeEntry s.params s.ir).reload s.params } ∧
        t.params = s.params ∧ t.inputs = s.inputs

/-- R70: every operation moves the state as the transition table says, whatever `tdi` and the registers are; none touches `prev_tck`, which is
the step's. That an operation does the same in a state other than its own is log 7. -/
def Obligations.EveryOperationMovesAsTheTransitionTable : Prop :=
  ∀ (st : TapState) (tms tdi : Bool) (s : State), ∃ t,
    exec (tapInstr st tms tdi) s = .next t ∧ t.state = nextState st tms ∧
      t.prevTck = s.prevTck ∧ t.params = s.params ∧ t.inputs = s.inputs

-- The IRWORD rows.

/-- R119 to R123: what each JTAG instruction does when committed, and the length it gives the data register, in terms of the parameters; nothing else
changes. That the commit puts the reload value into `DR` is the spec's own reading D5 (R117; log 10). -/
def Obligations.JtagInstructionsSelectAndReload : Prop :=
  ∀ (w : Nat) (s : State),
    (exec .bypass s = .next { s with reg := .bypass s.params.bypassReload } ∧ Entry.len s.params .bypass = s.params.lenBypass) ∧
    (exec .idcode s = .next { s with reg := .idcode s.params.deviceId } ∧ Entry.len s.params .idcode = s.params.lenIdcode) ∧
    (exec .extest s = .next { s with reg := .bsr s.params.bsrReload } ∧ Entry.len s.params .bsr = s.params.lenBsr) ∧
    (exec .sample s = .next { s with reg := .bsr s.params.bsrReload }) ∧
    (exec (.unknown w) s = .next { s with reg := .unknown s.params.unknownReload } ∧
      Entry.len s.params .unknown = s.params.lenUnknown)

/-- R115: the decode, by which opcodes select which entry; total. That the order of R115 also decides where parameters collide, and no such instance is
refused, is a choice: D12 of the spec leaves both open (R118; log 13). -/
def Obligations.OpcodesSelectEntriesInTheOrderOfTheDecode : Prop :=
  ∀ (p : Params) (w : Bits p.irWidth),
    (decodeEntry p w = .bypass ↔ w = p.opcBypass) ∧
    (decodeEntry p w = .idcode ↔ w = p.opcIdcode ∧ w ≠ p.opcBypass) ∧
    (decodeEntry p w = .bsr ↔ (w = p.opcExtest ∨ w = p.opcSample) ∧ w ≠ p.opcBypass ∧ w ≠ p.opcIdcode) ∧
    (decodeEntry p w = .unknown ↔ w ≠ p.opcBypass ∧ w ≠ p.opcIdcode ∧ w ≠ p.opcExtest ∧ w ≠ p.opcSample)

/-- R123 with the source's scenario: with the source's values and conforming OPEN opcodes, committing 9 selects `Unknown` with its reload pattern and
length 32. That `DR` holds the pattern right after the commit is the spec's own reading D5 (R117; log 10), that the edge of `IrExit1.1` is the commit
is D6 (R73; log 11). That it is in every state, not only `IrExit1`, is log 7. -/
def Obligations.CommittingNineSelectsUnknown : Prop :=
  ∀ s : State, s.params.Normative → s.params.Conforming → s.irNum = 0x0009 →
    ∃ t, exec .irExit1_1 s = .next t ∧ t.sel = .unknown ∧ t.dr = 0xDEADBEEF ∧ t.drLen = 32 ∧ t.irNum = 0x0009

/-- R124: the forced selection is the load of `OPC_IDCODE` into `IR` and its commit, whatever the parameters are. The two agree in `DR` because a commit
puts the reload value into it, the spec's own reading D5 (R117; log 10). That `Reset.0` does it in every state, not only `Reset`, is log 7. -/
def Obligations.ForcedSelectionIsLoadingAndCommittingIdcode : Prop :=
  ∀ s : State, exec .reset_0 s = exec .idcode { s with state := .idle, ir := s.params.opcIdcode }

-- Who writes what.

/-- R12: a step that changes `IR` is an edge that shifts it or the edge that leaves `Reset`. -/
def Obligations.IrIsWrittenOnlyByItsShiftAndTheForcedLoad : Prop :=
  ∀ s t : State, step s = .next t → t.irNum ≠ s.irNum →
    ∃ q rest, s.inputs = q :: rest ∧ s.prevTck = false ∧ q.tck = true ∧
      ((s.state = .irShift ∧ t.irNum = shiftInto s.irNum q.tdi s.params.irWidth) ∨
        (s.state = .reset ∧ q.tms = false ∧ t.state = .idle ∧ t.irNum = s.params.opcIdcode.toNat))

/-- R13, R42: a step that changes the selection is the edge that enters `IrUpdate` or the edge that leaves `Reset`. That it is the edge entering
`IrUpdate`, and not the one taken in it, is the spec's own reading D6 (R73; log 11). -/
def Obligations.SelectionIsWrittenOnlyByACommit : Prop :=
  ∀ s t : State, step s = .next t → t.sel ≠ s.sel →
    ∃ q rest, s.inputs = q :: rest ∧ s.prevTck = false ∧ q.tck = true ∧
      (((s.state = .irExit1 ∨ s.state = .irExit2) ∧ q.tms = true ∧ t.state = .irUpdate ∧
          t.sel = decodeEntry s.params s.ir) ∨
        (s.state = .reset ∧ q.tms = false ∧ t.state = .idle ∧ t.sel = .idcode))

/-- R14: a step that changes `DR` is an edge that shifts it, a commit, or the edge that leaves `Reset`. That a commit reloads `DR` is the spec's own
reading D5 (R117; log 10), that the edge entering `IrUpdate` is the commit is D6 (R73; log 11). -/
def Obligations.DrIsWrittenOnlyByItsShiftAndReloads : Prop :=
  ∀ s t : State, step s = .next t → t.dr ≠ s.dr →
    ∃ q rest, s.inputs = q :: rest ∧ s.prevTck = false ∧ q.tck = true ∧
      ((s.state = .drShift ∧ t.dr = shiftInto s.dr q.tdi s.drLen) ∨
        ((s.state = .irExit1 ∨ s.state = .irExit2) ∧ q.tms = true ∧
          t.dr = (decodeEntry s.params s.ir).reload s.params) ∨
        (s.state = .reset ∧ q.tms = false ∧ t.dr = s.params.deviceId.toNat))

/-- R22 (d), R18: a step that changes `tdo` is an edge taken in a shift state, and drives the pre-shift bit 0. -/
def Obligations.TdoIsDrivenOnlyByAShift : Prop :=
  ∀ s t : State, step s = .next t → t.tdo ≠ s.tdo →
    ∃ q rest, s.inputs = q :: rest ∧ s.prevTck = false ∧ q.tck = true ∧
      ((s.state = .drShift ∧ t.tdo = s.dr.testBit 0) ∨ (s.state = .irShift ∧ t.tdo = s.irNum.testBit 0))

/-- R11, R71: the state moves only on an edge, and then as the transition table says. -/
def Obligations.TheStateMovesOnlyOnAnEdge : Prop :=
  ∀ s t : State, step s = .next t → t.state ≠ s.state →
    ∃ q rest, s.inputs = q :: rest ∧ s.prevTck = false ∧ q.tck = true ∧ t.state = nextState s.state q.tms

/-- R91 (c) to (f): how the columns, the shift states, `IrUpdate` and `Reset` are entered from another state, and how the columns are left. -/
def Obligations.ColumnsAreEnteredAndLeftOnlyAtTheirEnds : Prop :=
  ∀ s t : State, step s = .next t → t.state ≠ s.state →
    (inDrColumn t.state = true → inDrColumn s.state = false → s.state = .drScan ∧ t.state = .drCapture) ∧
    (inDrColumn s.state = true → inDrColumn t.state = false → s.state = .drUpdate) ∧
    (inIrColumn t.state = true → inIrColumn s.state = false → s.state = .irScan ∧ t.state = .irCapture) ∧
    (inIrColumn s.state = true → inIrColumn t.state = false → s.state = .irUpdate) ∧
    (t.state = .drShift → s.state = .drCapture ∨ s.state = .drExit2) ∧
    (t.state = .irShift → s.state = .irCapture ∨ s.state = .irExit2) ∧
    (t.state = .irUpdate → s.state = .irExit1 ∨ s.state = .irExit2) ∧
    (t.state = .reset → s.state = .irScan)

/-- R4: the parameters are fixed for the life of an instance; an instruction takes no sample and a step takes at most the oldest. -/
def Obligations.ParametersNeverChange : Prop :=
  (∀ (i : Instr) (s t : State), exec i s = .next t → t.params = s.params ∧ t.inputs = s.inputs) ∧
    ∀ s t : State, step s = .next t → t.params = s.params ∧ t.inputs = s.inputs.tail

-- Invariants.

/-- R22 (c), R42, for every state: outside the middle of an IR scan the selection is the decode of `IR`, and every step keeps that. That it holds
already while the state is `IrUpdate` rests on the spec's own reading D6 (R73; log 11). The premise on the parameters holds of the source's values: where
`OPC_IDCODE` were `OPC_BYPASS`, the forced selection, which does not go through the decode (R124), would differ from it. -/
def Obligations.EveryStepKeepsTheSelectionCoherent : Prop :=
  ∀ s t : State, s.params.opcIdcode ≠ s.params.opcBypass → s.selectionCoherent → step s = .next t → t.selectionCoherent

/-- The same invariant after initialisation, for every value of the parameters with `OPC_BYPASS` all ones, as in the source (R21: "The initial IR
and sel agree with each other"). -/
def Obligations.InitialisationIsSelectionCoherent : Prop :=
  ∀ p : Params, p.opcBypass = BitVec.allOnes p.irWidth → (State.init p).selectionCoherent

/-- R22 (b): `DR` < 2^`len(sel)`, in every state. -/
def Obligations.DrFitsTheSelectedLength : Prop :=
  ∀ s : State, s.dr < 2 ^ s.sel.len s.params

-- Encodings.

/-- Decoding the word of a well-formed instruction gives it back, for every instruction, every operand and every value of the
parameters. -/
def Obligations.DecodeOfEncodeIsTheInstruction : Prop :=
  ∀ (p : Params) (i : Instr), i.wf p = true → decode p (encode p i) = i

/-- Every `IRWORD` and every pin sample is the word of what it decodes to, which is well-formed; a `TAPSTEP` word keeps its five bits. -/
def Obligations.EncodeOfDecodeIsTheWord : Prop :=
  ∀ p : Params,
    (∀ w : Bits p.irWidth, encode p (decode p (.irWord w)) = .irWord w ∧ (decode p (.irWord w)).wf p = true) ∧
    (∀ q : PinSample, encode p (decode p (.pinSample q)) = .pinSample q) ∧
    (∀ (bits : BitVec 5) (tdi : Bool), ∃ d, encode p (decode p (.tapStep bits tdi)) = .tapStep bits d)

/-- The table number of a well-formed instruction's word decodes to it, under the parameters with which the table prints its words (the packing
of the two formats below a byte is the model's choice, log 9). -/
def Obligations.TableNumbersDecodeToTheirInstruction : Prop :=
  ∀ i : Instr, i.wf Params.vectorDefaults = true →
    decodeTableWord (encode Params.vectorDefaults i).tableNumber.1 (encode Params.vectorDefaults i).tableNumber.2 = some i

/-- Words written out from the spec's encodings, one of each family and of each edge of the map: four opcodes (R47, R49) and three `TAPSTEP` strings
(R51). That a 5-bit number is a `TAPSTEP` word taken with `tdi` = 0, and a 3-bit number a pin sample in the order `tms`, `tck`, `tdi`, is the model's
packing (log 9): the source fixes no packed form (R46, D10). -/
def Obligations.WordsOfTheTableDecode : Prop :=
  decodeTableWord 16 0b1111111111111111 = some .bypass ∧
  decodeTableWord 16 0b0000000000000100 = some .idcode ∧
  decodeTableWord 16 0b0000000000001001 = some (.unknown 9) ∧
  decodeTableWord 5 0b00000 = some .reset_0 ∧
  decodeTableWord 5 0b01001 = some (.drShift_1 false) ∧
  decodeTableWord 5 0b11101 = some .irExit2_1 ∧
  decodeTableWord 3 0b011 = some (.step false true true)

-- Laws over many edges.

/-- R100: the shift, bit by bit, at every length. -/
def Obligations.ShiftMovesEveryBitDownByOne : Prop :=
  ∀ (n : Nat) (r : Bits (n + 1)) (tdi : Bool),
    (shiftReg r tdi).1 = r.getLsbD 0 ∧
      (∀ k, k < n → (shiftReg r tdi).2.getLsbD k = r.getLsbD (k + 1)) ∧
      (shiftReg r tdi).2.getLsbD n = tdi

/-- R33, R106 for `DR`: a scan of any number of edges is a delay line of the register's length. The outputs followed by the final contents are the
initial contents followed by the inputs. -/
def Obligations.ADrScanIsADelayLineOfTheSelectedLength : Prop :=
  ∀ (ds : List Bool) (s : State), s.state = .drShift →
    ∃ outs t, clock (ds.map fun d => ⟨false, d⟩) s = some (outs, t) ∧ outs.length = ds.length ∧
      outs ++ t.drBits = s.drBits ++ ds ∧ s.drBits.length = s.drLen ∧
      t.state = .drShift ∧ t.sel = s.sel ∧ t.irNum = s.irNum ∧ t.params = s.params

/-- R33, R106 for `IR`: the same law with the length of `IR`, sixteen bits with the source's `IR_WIDTH`; `sel` and `DR` keep their values (R42). -/
def Obligations.AnIrScanIsADelayLineOfSixteenBits : Prop :=
  ∀ (ds : List Bool) (s : State), s.state = .irShift →
    ∃ outs t, clock (ds.map fun d => ⟨false, d⟩) s = some (outs, t) ∧ outs.length = ds.length ∧
      outs ++ scanBits t.ir = scanBits s.ir ++ ds ∧ (scanBits s.ir).length = s.params.irWidth ∧
      (s.params.Normative → (scanBits s.ir).length = 16) ∧
      t.state = .irShift ∧ t.sel = s.sel ∧ t.dr = s.dr ∧ t.params = s.params

/-- R57: `IRSCAN v` reads the old `IR`, commits `v` and ends in `Idle`. That the commit leaves `DR` = reload(sel) is the spec's own reading D5
(R117; log 10). -/
def Obligations.IrScanCommitsItsOperand : Prop :=
  ∀ (s : State) (v : Bits s.params.irWidth), s.state = .idle ∨ s.state = .drUpdate ∨ s.state = .irUpdate →
    ∃ outs t, clock (irScan v) s = some (outs, t) ∧ outs.length = s.params.irWidth + 6 ∧
      (outs.drop 4).take s.params.irWidth = scanBits s.ir ∧
      t.state = .idle ∧ t.irNum = v.toNat ∧ t.sel = decodeEntry s.params v ∧
      t.dr = (decodeEntry s.params v).reload s.params ∧ t.params = s.params

/-- R108, R158: after leaving `Reset`, with no IR scan, a DR scan of ones of the length of the `Idcode` register reads `DEVICE_ID` (in the source 32
ones read 0x89BEEF01), least significant bit first, and leaves ones. -/
def Obligations.LeavingResetThenAScanReadsTheDeviceId : Prop :=
  ∀ s : State, s.state = .reset →
    ∃ outs t, clock (rti ++ drScan (BitVec.allOnes s.params.lenIdcode)) s = some (outs, t) ∧
      (outs.drop 4).take s.params.lenIdcode = scanBits s.params.deviceId ∧
      t.state = .idle ∧ t.sel = .idcode ∧ t.dr = 2 ^ s.params.lenIdcode - 1

/-- R109: after committing BYPASS, a DR scan of any length outputs the `Bypass` reload value and then its own input, so with `LEN_BYPASS` = 1, as in
the source, the reload bit (0 in the source) and then its input delayed by one edge. That the reload value comes first rests on the reload at a
commit, the spec's own reading D5 (R117; log 10). -/
def Obligations.BypassDelaysEveryScanByOneEdge : Prop :=
  ∀ (n : Nat) (v : Bits (n + 1)) (s : State), s.state = .idle →
    ∃ outs t, clock (irScan s.params.opcBypass ++ drScan v) s = some (outs, t) ∧ t.state = .idle ∧ t.sel = .bypass ∧
      (outs.drop (s.params.irWidth + 9)).take (n + 1) = (scanBits s.params.bypassReload ++ scanBits v).take (n + 1) ∧
      (s.params.lenBypass = 1 →
        (outs.drop (s.params.irWidth + 9)).take (n + 1) =
          s.params.bypassReload.getLsbD 0 :: (scanBits v).dropLast)

/-- R163, R77: with no commit between them, a second DR scan of the register's length reads what the first shifted in, not the reload value. -/
def Obligations.ASecondDrScanReadsWhatTheFirstShiftedIn : Prop :=
  ∀ (s : State) (v w : Bits s.drLen), s.state = .idle →
    ∃ outs t, clock (drScan v ++ drScan w) s = some (outs, t) ∧
      (outs.drop 3).take s.drLen = s.drBits ∧ (outs.drop (s.drLen + 8)).take s.drLen = scanBits v ∧
      t.dr = w.toNat ∧ t.sel = s.sel

/-- R125: the six-edge recommit from `Idle` restores the reload value of the instruction in `IR`, shifting nothing. That a commit of an unchanged `IR`
reloads `DR` is not in the source: it is the spec's own reading D5 against its alternative (b) (R117; log 10). -/
def Obligations.ARecommitRestoresTheReloadValue : Prop :=
  ∀ (d1 d2 d3 d4 d5 d6 : Bool) (s : State), s.state = .idle →
    ∃ outs t, clock [⟨true, d1⟩, ⟨true, d2⟩, ⟨false, d3⟩, ⟨true, d4⟩, ⟨true, d5⟩, ⟨false, d6⟩] s = some (outs, t) ∧
      t.state = .idle ∧ t.irNum = s.irNum ∧ t.sel = decodeEntry s.params s.ir ∧
      t.dr = (decodeEntry s.params s.ir).reload s.params ∧ t.tdo = s.tdo

/-- R90: the exact number of edges with `tms` = 1 after which the state is `Reset`, from every state, and that it is held from then on. -/
def Obligations.ResetIsTheAttractorOfTmsHigh : Prop :=
  ∀ (ds : List Bool) (s : State),
    ∃ outs t, clock (ds.map fun d => ⟨true, d⟩) s = some (outs, t) ∧
      (t.state = .reset ↔ edgesToReset s.state ≤ ds.length) ∧ edgesToReset s.state ≤ 5

/-- R56: a `CLK` pair is exactly one edge, whatever `prev_tck` was, returns the edge's `tdo` and leaves `prev_tck` = 1. -/
def Obligations.AClkPairIsOneEdge : Prop :=
  ∀ (c : Clk) (s : State),
    ∃ t, exec (tapInstr s.state c.tms c.tdi) { s with prevTck := true } = .next t ∧ t.prevTck = true ∧
      clock [c] s = some ([t.tdo], t)

/-- R36, R63 (c): presenting a level again, with whatever `tms` and `tdi`, changes nothing. -/
def Obligations.ARepeatedLevelChangesNothing : Prop :=
  ∀ (tms tms' tck tdi tdi' : Bool) (s t : State),
    exec (.step tms tck tdi) s = .next t → exec (.step tms' tck tdi') t = .next t

/-- R65, R160: after a sample with `tck` = 0 the value `prev_tck` had no longer matters. -/
def Obligations.ALowSampleForgetsThePreviousLevel : Prop :=
  ∀ (tms tdi b : Bool) (s : State),
    exec (.step tms false tdi) { s with prevTck := b } = .next { s with prevTck := false }

/-- R92: over any sample sequence, the states a machine goes through depend only on `tms`, `tck`, the start state and `prev_tck`: never on `tdi`, the
registers or `tdo`. -/
def Obligations.TdiAndRegistersNeverInfluenceTheState : Prop :=
  ∀ (qs qs' : List PinSample) (s s' : State) (os os' : List Bool) (t t' : State),
    qs.map (fun q => (q.tms, q.tck)) = qs'.map (fun q => (q.tms, q.tck)) → s.state = s'.state → s.prevTck = s'.prevTck →
      observe qs s = some (os, t) → observe qs' s' = some (os', t') → t.state = t'.state ∧ t.prevTck = t'.prevTck

/-- R156, R168: what `IR`, `sel` and `DR` hold while the state is `Reset` is never visible on `tdo`, whatever samples follow. -/
def Obligations.RegistersHeldInResetAreNeverObserved : Prop :=
  ∀ (qs : List PinSample) (s : State) (w : Bits s.params.irWidth) (r : DataReg s.params), s.state = .reset →
    (observe qs s).map Prod.fst = (observe qs { s with ir := w, reg := r }).map Prod.fst

-- The parameters of R4 and the terms of R8.

/-- R4, D9: with the source's values, and whatever the OPEN parameters are, the widths, the forced load and the instructions give the source's
literals; `State.reset` has these values. That a commit puts the reload value into `DR` is the spec's own reading D5 (R117; log 10). -/
def Obligations.TheSourceValuesGiveTheSourceLiterals : Prop :=
  State.reset.params.Normative ∧ State.reset.params.Conforming ∧
    ∀ (w : Nat) (s : State), s.params.Normative →
      ∃ t b i u,
        exec .reset_0 s = .next t ∧ t.irNum = 0x0004 ∧ t.sel = .idcode ∧ t.drLen = 32 ∧ t.dr = 0x89BEEF01 ∧
        exec .bypass s = .next b ∧ b.sel = .bypass ∧ b.drLen = 1 ∧ b.dr = 0 ∧
        exec .idcode s = .next i ∧ i.sel = .idcode ∧ i.drLen = 32 ∧ i.dr = 0x89BEEF01 ∧
        exec (.unknown w) s = .next u ∧ u.sel = .unknown ∧ u.drLen = 32 ∧ u.dr = 0xDEADBEEF ∧
        Entry.len s.params .bsr = 32 ∧ (scanBits s.ir).length = 16 ∧
        (s.irNum = 0xFFFF → decode s.params (.irWord s.ir) = .bypass) ∧
        (s.irNum = 0x0004 → decode s.params (.irWord s.ir) = .idcode)

/-- R8 ("in this block it is a plain 32-bit shift register with a fixed reload pattern"), R121, R122: EXTEST and SAMPLE load the `Bsr` register
with the same fixed pattern, whatever it held, and an edge in `DrShift` shifts its bits (32 in the source); nothing else of the machine is written but `tdo` and the
state. That the commit performs the load is the spec's own reading D5 (R117; log 10). That the two rows shift in every state, not only `DrShift`,
is log 7. -/
def Obligations.TheBsrIsAPlainShiftRegister : Prop :=
  ∀ (s : State) (v : Bits s.params.lenBsr) (tdi : Bool),
    exec .extest { s with reg := .bsr v } = .next { s with reg := .bsr s.params.bsrReload } ∧
    exec .sample { s with reg := .bsr v } = .next { s with reg := .bsr s.params.bsrReload } ∧
    exec (.drShift_0 tdi) { s with reg := .bsr v } =
      .next { s with
        state := .drShift
        tdo := v.getLsbD 0
        reg := .bsr ((v >>> 1) ||| ((BitVec.ofBool tdi).setWidth s.params.lenBsr <<< (s.params.lenBsr - 1))) } ∧
    exec (.drShift_1 tdi) { s with reg := .bsr v } =
      .next { s with
        state := .drExit1
        tdo := v.getLsbD 0
        reg := .bsr ((v >>> 1) ||| ((BitVec.ofBool tdi).setWidth s.params.lenBsr <<< (s.params.lenBsr - 1))) }

/-- R8 (the `Bsr` register "drives and observes nothing"), R24, R111 ("shifted-in DR data is never used by the block"): over every sample sequence,
what a data register holds, of whichever entry, reaches nothing but itself and `tdo`. -/
def Obligations.DataRegisterContentsReachOnlyTdo : Prop :=
  ∀ (qs : List PinSample) (s : State) (r : DataReg s.params) (os os' : List Bool) (t t' : State), r.sel = s.sel →
    observe qs s = some (os, t) → observe qs { s with reg := r } = some (os', t') →
      t.state = t'.state ∧ t.irNum = t'.irNum ∧ t.sel = t'.sel ∧ t.prevTck = t'.prevTck
end

