-- ==== Sys2Proof/Laws/State.lean ====
section
/-! SUPPORT. One lemma per field per update of State, and per view (`irNum`, `sel`, `dr`), so that no later proof unfolds a record update. The
widths of `ir` and `reg` rest on `params`, which no update writes: the views say the same without the width in the type. -/

namespace Sys2Proof
namespace Machine

@[simp] theorem State.rememberTck_params (s : State) (tck : Bool) : (s.rememberTck tck).params = s.params := rfl
@[simp] theorem State.rememberTck_state (s : State) (tck : Bool) : (s.rememberTck tck).state = s.state := rfl
@[simp] theorem State.rememberTck_ir (s : State) (tck : Bool) : (s.rememberTck tck).ir = s.ir := rfl
@[simp] theorem State.rememberTck_reg (s : State) (tck : Bool) : (s.rememberTck tck).reg = s.reg := rfl
@[simp] theorem State.rememberTck_prevTck (s : State) (tck : Bool) : (s.rememberTck tck).prevTck = tck := rfl
@[simp] theorem State.rememberTck_tdo (s : State) (tck : Bool) : (s.rememberTck tck).tdo = s.tdo := rfl
@[simp] theorem State.rememberTck_inputs (s : State) (tck : Bool) : (s.rememberTck tck).inputs = s.inputs := rfl
@[simp] theorem State.rememberTck_irNum (s : State) (tck : Bool) : (s.rememberTck tck).irNum = s.irNum := rfl
@[simp] theorem State.rememberTck_sel (s : State) (tck : Bool) : (s.rememberTck tck).sel = s.sel := rfl
@[simp] theorem State.rememberTck_dr (s : State) (tck : Bool) : (s.rememberTck tck).dr = s.dr := rfl

@[simp] theorem State.driveTdo_params (s : State) (b : Bool) : (s.driveTdo b).params = s.params := rfl
@[simp] theorem State.driveTdo_state (s : State) (b : Bool) : (s.driveTdo b).state = s.state := rfl
@[simp] theorem State.driveTdo_ir (s : State) (b : Bool) : (s.driveTdo b).ir = s.ir := rfl
@[simp] theorem State.driveTdo_reg (s : State) (b : Bool) : (s.driveTdo b).reg = s.reg := rfl
@[simp] theorem State.driveTdo_prevTck (s : State) (b : Bool) : (s.driveTdo b).prevTck = s.prevTck := rfl
@[simp] theorem State.driveTdo_tdo (s : State) (b : Bool) : (s.driveTdo b).tdo = b := rfl
@[simp] theorem State.driveTdo_inputs (s : State) (b : Bool) : (s.driveTdo b).inputs = s.inputs := rfl
@[simp] theorem State.driveTdo_irNum (s : State) (b : Bool) : (s.driveTdo b).irNum = s.irNum := rfl
@[simp] theorem State.driveTdo_sel (s : State) (b : Bool) : (s.driveTdo b).sel = s.sel := rfl
@[simp] theorem State.driveTdo_dr (s : State) (b : Bool) : (s.driveTdo b).dr = s.dr := rfl

@[simp] theorem State.goto_params (s : State) (n : TapState) : (s.goto n).params = s.params := rfl
@[simp] theorem State.goto_state (s : State) (n : TapState) : (s.goto n).state = n := rfl
@[simp] theorem State.goto_ir (s : State) (n : TapState) : (s.goto n).ir = s.ir := rfl
@[simp] theorem State.goto_reg (s : State) (n : TapState) : (s.goto n).reg = s.reg := rfl
@[simp] theorem State.goto_prevTck (s : State) (n : TapState) : (s.goto n).prevTck = s.prevTck := rfl
@[simp] theorem State.goto_tdo (s : State) (n : TapState) : (s.goto n).tdo = s.tdo := rfl
@[simp] theorem State.goto_inputs (s : State) (n : TapState) : (s.goto n).inputs = s.inputs := rfl
@[simp] theorem State.goto_irNum (s : State) (n : TapState) : (s.goto n).irNum = s.irNum := rfl
@[simp] theorem State.goto_sel (s : State) (n : TapState) : (s.goto n).sel = s.sel := rfl
@[simp] theorem State.goto_dr (s : State) (n : TapState) : (s.goto n).dr = s.dr := rfl

@[simp] theorem State.select_params (s : State) (e : Entry) : (s.select e).params = s.params := rfl
@[simp] theorem State.select_state (s : State) (e : Entry) : (s.select e).state = s.state := rfl
@[simp] theorem State.select_ir (s : State) (e : Entry) : (s.select e).ir = s.ir := rfl
@[simp] theorem State.select_reg (s : State) (e : Entry) : (s.select e).reg = loadEntry s.params e := rfl
@[simp] theorem State.select_prevTck (s : State) (e : Entry) : (s.select e).prevTck = s.prevTck := rfl
@[simp] theorem State.select_tdo (s : State) (e : Entry) : (s.select e).tdo = s.tdo := rfl
@[simp] theorem State.select_inputs (s : State) (e : Entry) : (s.select e).inputs = s.inputs := rfl
@[simp] theorem State.select_irNum (s : State) (e : Entry) : (s.select e).irNum = s.irNum := rfl
@[simp] theorem State.select_sel (s : State) (e : Entry) : (s.select e).sel = e := by cases e <;> rfl
@[simp] theorem State.select_dr (s : State) (e : Entry) : (s.select e).dr = e.reload s.params := by cases e <;> rfl

@[simp] theorem State.loadIr_params (s : State) (w : Bits s.params.irWidth) : (s.loadIr w).params = s.params := rfl
@[simp] theorem State.loadIr_state (s : State) (w : Bits s.params.irWidth) : (s.loadIr w).state = s.state := rfl
@[simp] theorem State.loadIr_ir (s : State) (w : Bits s.params.irWidth) : (s.loadIr w).ir = w := rfl
@[simp] theorem State.loadIr_reg (s : State) (w : Bits s.params.irWidth) : (s.loadIr w).reg = s.reg := rfl
@[simp] theorem State.loadIr_prevTck (s : State) (w : Bits s.params.irWidth) : (s.loadIr w).prevTck = s.prevTck := rfl
@[simp] theorem State.loadIr_tdo (s : State) (w : Bits s.params.irWidth) : (s.loadIr w).tdo = s.tdo := rfl
@[simp] theorem State.loadIr_inputs (s : State) (w : Bits s.params.irWidth) : (s.loadIr w).inputs = s.inputs := rfl
@[simp] theorem State.loadIr_irNum (s : State) (w : Bits s.params.irWidth) : (s.loadIr w).irNum = w.toNat := rfl
@[simp] theorem State.loadIr_sel (s : State) (w : Bits s.params.irWidth) : (s.loadIr w).sel = s.sel := rfl
@[simp] theorem State.loadIr_dr (s : State) (w : Bits s.params.irWidth) : (s.loadIr w).dr = s.dr := rfl

@[simp] theorem State.forceIdcode_params (s : State) : (s.forceIdcode).params = s.params := rfl
@[simp] theorem State.forceIdcode_state (s : State) : (s.forceIdcode).state = s.state := rfl
@[simp] theorem State.forceIdcode_ir (s : State) : (s.forceIdcode).ir = s.params.opcIdcode := rfl
@[simp] theorem State.forceIdcode_reg (s : State) : (s.forceIdcode).reg = .idcode s.params.deviceId := rfl
@[simp] theorem State.forceIdcode_prevTck (s : State) : (s.forceIdcode).prevTck = s.prevTck := rfl
@[simp] theorem State.forceIdcode_tdo (s : State) : (s.forceIdcode).tdo = s.tdo := rfl
@[simp] theorem State.forceIdcode_inputs (s : State) : (s.forceIdcode).inputs = s.inputs := rfl
@[simp] theorem State.forceIdcode_irNum (s : State) : (s.forceIdcode).irNum = s.params.opcIdcode.toNat := rfl
@[simp] theorem State.forceIdcode_sel (s : State) : (s.forceIdcode).sel = .idcode := rfl
@[simp] theorem State.forceIdcode_dr (s : State) : (s.forceIdcode).dr = s.params.deviceId.toNat := rfl

@[simp] theorem State.shiftIr_params (s : State) (tdi : Bool) : (s.shiftIr tdi).params = s.params := rfl
@[simp] theorem State.shiftIr_state (s : State) (tdi : Bool) : (s.shiftIr tdi).state = s.state := rfl
@[simp] theorem State.shiftIr_ir (s : State) (tdi : Bool) : (s.shiftIr tdi).ir = (shiftReg s.ir tdi).2 := rfl
@[simp] theorem State.shiftIr_reg (s : State) (tdi : Bool) : (s.shiftIr tdi).reg = s.reg := rfl
@[simp] theorem State.shiftIr_prevTck (s : State) (tdi : Bool) : (s.shiftIr tdi).prevTck = s.prevTck := rfl
@[simp] theorem State.shiftIr_tdo (s : State) (tdi : Bool) : (s.shiftIr tdi).tdo = (shiftReg s.ir tdi).1 := rfl
@[simp] theorem State.shiftIr_inputs (s : State) (tdi : Bool) : (s.shiftIr tdi).inputs = s.inputs := rfl
@[simp] theorem State.shiftIr_irNum (s : State) (tdi : Bool) : (s.shiftIr tdi).irNum = (shiftReg s.ir tdi).2.toNat := rfl
@[simp] theorem State.shiftIr_sel (s : State) (tdi : Bool) : (s.shiftIr tdi).sel = s.sel := rfl
@[simp] theorem State.shiftIr_dr (s : State) (tdi : Bool) : (s.shiftIr tdi).dr = s.dr := rfl

@[simp] theorem State.shiftDr_params (s : State) (tdi : Bool) : (s.shiftDr tdi).params = s.params := rfl
@[simp] theorem State.shiftDr_state (s : State) (tdi : Bool) : (s.shiftDr tdi).state = s.state := rfl
@[simp] theorem State.shiftDr_ir (s : State) (tdi : Bool) : (s.shiftDr tdi).ir = s.ir := rfl
@[simp] theorem State.shiftDr_reg (s : State) (tdi : Bool) : (s.shiftDr tdi).reg = (s.reg.shift tdi).2 := rfl
@[simp] theorem State.shiftDr_prevTck (s : State) (tdi : Bool) : (s.shiftDr tdi).prevTck = s.prevTck := rfl
@[simp] theorem State.shiftDr_tdo (s : State) (tdi : Bool) : (s.shiftDr tdi).tdo = (s.reg.shift tdi).1 := rfl
@[simp] theorem State.shiftDr_inputs (s : State) (tdi : Bool) : (s.shiftDr tdi).inputs = s.inputs := rfl
@[simp] theorem State.shiftDr_irNum (s : State) (tdi : Bool) : (s.shiftDr tdi).irNum = s.irNum := rfl
@[simp] theorem State.shiftDr_sel (s : State) (tdi : Bool) : (s.shiftDr tdi).sel = s.sel := by cases s with | mk _ _ _ r _ _ _ => cases r <;> rfl
@[simp] theorem State.shiftDr_dr (s : State) (tdi : Bool) : (s.shiftDr tdi).dr = (s.reg.shift tdi).2.num := rfl

@[simp] theorem State.present_params (s : State) (q : PinSample) : (s.present q).params = s.params := rfl
@[simp] theorem State.present_state (s : State) (q : PinSample) : (s.present q).state = s.state := rfl
@[simp] theorem State.present_ir (s : State) (q : PinSample) : (s.present q).ir = s.ir := rfl
@[simp] theorem State.present_reg (s : State) (q : PinSample) : (s.present q).reg = s.reg := rfl
@[simp] theorem State.present_prevTck (s : State) (q : PinSample) : (s.present q).prevTck = s.prevTck := rfl
@[simp] theorem State.present_tdo (s : State) (q : PinSample) : (s.present q).tdo = s.tdo := rfl
@[simp] theorem State.present_inputs (s : State) (q : PinSample) : (s.present q).inputs = q :: s.inputs := rfl
@[simp] theorem State.present_irNum (s : State) (q : PinSample) : (s.present q).irNum = s.irNum := rfl
@[simp] theorem State.present_sel (s : State) (q : PinSample) : (s.present q).sel = s.sel := rfl
@[simp] theorem State.present_dr (s : State) (q : PinSample) : (s.present q).dr = s.dr := rfl

end Machine
end Sys2Proof
end

