-- ==== Sys2Proof/Laws/Ops.lean ====
section
/-! SUPPORT. One lemma per shared operation: the bank, the tagged data register against its number, the shift as arithmetic, the decode on
numbers, and fetching. -/

namespace Sys2Proof
namespace Machine

variable {p : Params}

@[simp] theorem loadEntry_sel (p : Params) (e : Entry) : (loadEntry p e).sel = e := by
  cases e <;> rfl

@[simp] theorem loadEntry_num (p : Params) (e : Entry) : (loadEntry p e).num = e.reload p := by
  cases e <;> rfl

@[simp] theorem DataReg.sel_idcode (v : Bits p.lenIdcode) : (DataReg.idcode v).sel = .idcode := rfl

@[simp] theorem DataReg.num_idcode (v : Bits p.lenIdcode) : (DataReg.idcode v).num = v.toNat := rfl

/-- Every entry has a bit. -/
theorem Entry.len_pos (p : Params) (e : Entry) : 0 < e.len p := by
  obtain ⟨_, hb, hi, hs, hu⟩ := p.widths_pos
  cases e <;> assumption

/-- A data register fits its length (R22 (b)). -/
theorem DataReg.num_lt (r : DataReg p) : r.num < 2 ^ r.sel.len p := by
  cases r <;> exact BitVec.isLt _

/-- A shift never changes the selection, hence never the length (R22 (a)). -/
@[simp] theorem DataReg.shift_sel (r : DataReg p) (tdi : Bool) : (r.shift tdi).2.sel = r.sel := by
  cases r <;> rfl

/-- The bit that leaves a register is bit 0 of its number. -/
theorem shiftReg_out {n : Nat} (v : Bits n) (tdi : Bool) : (shiftReg v tdi).1 = v.toNat.testBit 0 := rfl

/-- The bit that leaves is bit 0 of `DR` (R101). -/
theorem DataReg.shift_out (r : DataReg p) (tdi : Bool) : (r.shift tdi).1 = r.num.testBit 0 := by
  cases r <;> rfl

/-- A register of any length shifts as R72 writes it on numbers. -/
theorem shiftReg_toNat_shiftInto {n : Nat} (h0 : 0 < n) (v : Bits n) (tdi : Bool) :
    (shiftReg v tdi).2.toNat = shiftInto v.toNat tdi n := by
  have hb : ((BitVec.ofBool tdi).setWidth n <<< (n - 1)).toNat = tdi.toNat <<< (n - 1) := by
    have hp : (2 : Nat) ^ (n - 1) < 2 ^ n := Nat.pow_lt_pow_right (by decide) (by omega)
    cases tdi
    · simp
    · have h1 : (1 : Nat) % 2 ^ n = 1 := Nat.mod_eq_of_lt (Nat.one_lt_two_pow (by omega))
      simp [BitVec.toNat_shiftLeft, Nat.shiftLeft_eq, h1, Nat.mod_eq_of_lt hp]
  simp only [shiftReg, shiftInto, BitVec.toNat_or, BitVec.toNat_ushiftRight, hb]

/-- The tagged register shifts at the length of its entry as R72 writes it on numbers. -/
theorem DataReg.shift_num (r : DataReg p) (tdi : Bool) :
    (r.shift tdi).2.num = shiftInto r.num tdi (r.sel.len p) := by
  obtain ⟨_, hb, hi, hs, hu⟩ := p.widths_pos
  cases r <;> exact shiftReg_toNat_shiftInto (by assumption) _ _

/-- Two data registers with the same selection and the same number are the same. -/
theorem DataReg.ext_sel_num {r r' : DataReg p} (hs : r.sel = r'.sel) (hn : r.num = r'.num) : r = r' := by
  cases r <;> cases r' <;> simp_all [DataReg.sel, DataReg.num, ← BitVec.toNat_inj]

/-- The decode on numbers (R115, R47) is the decode of the word. -/
theorem decodeNum_toNat (p : Params) (w : Bits p.irWidth) : decodeNum p w.toNat = decodeEntry p w := by
  simp only [decodeNum, decodeEntry, irOp, BitVec.toNat_inj]
  split
  · rfl
  split
  · rfl
  split
  · rfl
  split
  · rfl
  · rfl

/-- The shift as arithmetic on numbers: the lost bit is the remainder, `tdi` is the new top (R104). -/
theorem shiftReg_toNat {n : Nat} (r : BitVec (n + 1)) (tdi : Bool) :
    (shiftReg r tdi).2.toNat = r.toNat / 2 + tdi.toNat * 2 ^ n := by
  have hr : r.toNat / 2 < 2 ^ n := by have := r.isLt; omega
  have hb : ((BitVec.ofBool tdi).setWidth (n + 1) <<< n).toNat = tdi.toNat * 2 ^ n := by
    cases tdi
    · simp
    · simp only [BitVec.toNat_shiftLeft, Nat.shiftLeft_eq]
      have h1 : ((BitVec.ofBool true).setWidth (n + 1)).toNat = 1 := by simp
      rw [h1]
      exact Nat.mod_eq_of_lt (by rw [Nat.pow_succ]; simp)
  simp only [shiftReg, Nat.add_sub_cancel, BitVec.toNat_or, hb, BitVec.toNat_ushiftRight, Nat.shiftRight_eq_div_pow, Nat.pow_one]
  have := Nat.two_pow_add_eq_or_of_lt hr tdi.toNat
  rw [Nat.or_comm, Nat.mul_comm, ← this, Nat.add_comm]

/-- Fetching takes the oldest waiting sample and nothing else. -/
@[simp] theorem State.fetch_present (s : State) (q : PinSample) : (s.present q).fetch = some (q, s) := rfl

/-- Fetching finds no sample exactly when none waits. -/
theorem State.fetch_eq_none_iff (s : State) : s.fetch = none ↔ s.inputs = [] := by
  unfold State.fetch
  cases s.inputs <;> simp

end Machine
end Sys2Proof
end

