-- ==== Sys2Proof/Laws/Step.lean ====
section
/-! SUPPORT. What the meanings and a step can do, said once: the commit, the operation of an edge (the write matrix of 10_state.md R20), the
whole `STEP`, and `step`. -/

namespace Sys2Proof
namespace Machine

/-- Every JTAG instruction selects its entry and does nothing else. -/
theorem execIrOp_eq (o : IrOp) (s : State) : execIrOp o s = .next (s.select o.entry) := by
  cases o <;> rfl

/-- The commit (R117). -/
theorem commitIr_eq (s : State) : commitIr s = .next (s.select (decodeEntry s.params s.ir)) :=
  execIrOp_eq _ s

/-- The rows of R20 as one function: what an edge in state `st` with `tms` does to everything but `prev_tck`. -/
def tapEffect (st : TapState) (tms tdi : Bool) (s : State) : State :=
  match st, tms with
  | .reset, false => s.forceIdcode.goto .idle
  | .drShift, tms => (s.shiftDr tdi).goto (nextState .drShift tms)
  | .irShift, tms => (s.shiftIr tdi).goto (nextState .irShift tms)
  | .irExit1, true => (s.select (decodeEntry s.params s.ir)).goto .irUpdate
  | .irExit2, true => (s.select (decodeEntry s.params s.ir)).goto .irUpdate
  | st, tms => s.goto (nextState st tms)

/-- Every operation of an edge answers a next state, the one of its row of R20. -/
theorem execTapOp_eq (st : TapState) (tms tdi : Bool) (s : State) :
    execTapOp st tms tdi s = .next (tapEffect st tms tdi s) := by
  cases st <;> cases tms <;> first | rfl | exact commitIr_eq _

/-- `exec` of the operation selected by (`state`, `tms`) is that operation's meaning. -/
theorem exec_tapInstr (st : TapState) (tms tdi : Bool) (s : State) :
    exec (tapInstr st tms tdi) s = execTapOp st tms tdi s := by
  cases st <;> cases tms <;> rfl

/-- `exec` of a decoded opcode is the meaning of its class. -/
theorem exec_irOp (o : IrOp) (s : State) : exec o.toInstr s = execIrOp o s := by
  cases o <;> rfl

/-- What `STEP` does: on an edge the row of R20, otherwise nothing; the level is remembered either way. -/
theorem execStep_eq (tms tck tdi : Bool) (s : State) :
    execStep tms tck tdi s =
      .next (if risingEdge s.prevTck tck then tapEffect s.state tms tdi (s.rememberTck tck) else s.rememberTck tck) := by
  unfold execStep
  split
  · exact execTapOp_eq ..
  · rfl

@[simp] theorem tapEffect_params (st : TapState) (tms tdi : Bool) (s : State) : (tapEffect st tms tdi s).params = s.params := by
  cases st <;> cases tms <;> rfl

@[simp] theorem tapEffect_inputs (st : TapState) (tms tdi : Bool) (s : State) : (tapEffect st tms tdi s).inputs = s.inputs := by
  cases st <;> cases tms <;> rfl

@[simp] theorem tapEffect_prevTck (st : TapState) (tms tdi : Bool) (s : State) :
    (tapEffect st tms tdi s).prevTck = s.prevTck := by
  cases st <;> cases tms <;> rfl

@[simp] theorem tapEffect_state (st : TapState) (tms tdi : Bool) (s : State) :
    (tapEffect st tms tdi s).state = nextState st tms := by
  cases st <;> cases tms <;> rfl

/-- A presented sample is performed, and only it is taken. -/
theorem step_present (s : State) (q : PinSample) : step (s.present q) = execStep q.tms q.tck q.tdi s := rfl

/-- Everything a step can do: nothing where no sample waits, `STEP` of the oldest one otherwise. -/
theorem step_cases (s : State) :
    (s.inputs = [] ∧ step s = .next s) ∨
      ∃ q rest, s.inputs = q :: rest ∧ step s = execStep q.tms q.tck q.tdi { s with inputs := rest } := by
  unfold step State.fetch
  cases s.inputs with
  | nil => exact .inl ⟨rfl, rfl⟩
  | cons q rest => exact .inr ⟨q, rest, rfl, rfl⟩

/-- Everything a step can change: no edge, and then no element but `prev_tck`; or the effect of one edge. -/
theorem step_edge_or_kept {s t : State} (h : step s = .next t) :
    (t.state = s.state ∧ t.irNum = s.irNum ∧ t.sel = s.sel ∧ t.dr = s.dr ∧ t.tdo = s.tdo) ∨
      ∃ q rest, s.inputs = q :: rest ∧ s.prevTck = false ∧ q.tck = true ∧
        t = tapEffect s.state q.tms q.tdi { s with inputs := rest, prevTck := true } := by
  rcases step_cases s with ⟨_, h'⟩ | ⟨q, rest, hi, h'⟩
  · cases h'.symm.trans h
    exact .inl ⟨rfl, rfl, rfl, rfl, rfl⟩
  · rw [execStep_eq] at h'
    cases h'.symm.trans h
    cases hp : s.prevTck <;> cases hq : q.tck
    · exact .inl ⟨rfl, rfl, rfl, rfl, rfl⟩
    · exact .inr ⟨q, rest, hi, rfl, hq, rfl⟩
    · exact .inl ⟨rfl, rfl, rfl, rfl, rfl⟩
    · exact .inl ⟨rfl, rfl, rfl, rfl, rfl⟩

end Machine
end Sys2Proof
end

