-- ==== Sys2Proof/Laws/Observe.lean ====
section
/-! SUPPORT. What presenting samples does, one sample at a time: the observation of a run is a fold of `sampleEffect`. -/

namespace Sys2Proof
namespace Machine

/-- The state after one presented sample. -/
def sampleEffect (q : PinSample) (s : State) : State :=
  if risingEdge s.prevTck q.tck then tapEffect s.state q.tms q.tdi (s.rememberTck q.tck) else s.rememberTck q.tck

@[simp] theorem observe_nil (s : State) : observe [] s = some ([], s) := rfl

/-- The first sample of an observation. -/
theorem observe_cons (q : PinSample) (qs : List PinSample) (s : State) :
    observe (q :: qs) s =
      (observe qs (sampleEffect q s)).map fun r => ((sampleEffect q s).tdo :: r.1, r.2) := by
  rw [observe, step_present, execStep_eq]
  rfl

/-- An observation never stops. -/
theorem observe_isSome (qs : List PinSample) (s : State) : ∃ r, observe qs s = some r := by
  induction qs generalizing s with
  | nil => exact ⟨_, rfl⟩
  | cons q qs ih =>
    obtain ⟨r, h⟩ := ih (sampleEffect q s)
    exact ⟨_, by rw [observe_cons, h]; rfl⟩

@[simp] theorem sampleEffect_prevTck (q : PinSample) (s : State) : (sampleEffect q s).prevTck = q.tck := by
  unfold sampleEffect
  split <;> simp

@[simp] theorem sampleEffect_state (q : PinSample) (s : State) :
    (sampleEffect q s).state = if risingEdge s.prevTck q.tck then nextState s.state q.tms else s.state := by
  unfold sampleEffect
  split <;> simp

end Machine
end Sys2Proof
end

