-- ==== Sys2Proof/Laws/PerInstr.lean ====
section
/-! SUPPORT. Statements made of every instruction as syntax, one lemma per constructor. -/

namespace Sys2Proof
namespace Laws

/-- The three formats of 30_encoding.md R45. -/
inductive Format where
  | pinSample
  | tapStep
  | irWord
deriving DecidableEq, Repr

/-- The format of a word. -/
def formatOf {n : Nat} : CodeWord n → Format
  | .pinSample _ => .pinSample
  | .tapStep _ _ => .tapStep
  | .irWord _ => .irWord

/-- The format that spec/opcode_table.json gives an instruction's row. -/
def rowFormat : Instr → Format
  | .step _ _ _ => .pinSample
  | .bypass | .idcode | .extest | .sample | .unknown _ => .irWord
  | .reset_0 | .reset_1 => .tapStep
  | .idle_0 | .idle_1 => .tapStep
  | .drScan_0 | .drScan_1 => .tapStep
  | .drCapture_0 | .drCapture_1 => .tapStep
  | .drShift_0 _ | .drShift_1 _ => .tapStep
  | .drExit1_0 | .drExit1_1 => .tapStep
  | .drPause_0 | .drPause_1 => .tapStep
  | .drExit2_0 | .drExit2_1 => .tapStep
  | .drUpdate_0 | .drUpdate_1 => .tapStep
  | .irScan_0 | .irScan_1 => .tapStep
  | .irCapture_0 | .irCapture_1 => .tapStep
  | .irShift_0 _ | .irShift_1 _ => .tapStep
  | .irExit1_0 | .irExit1_1 => .tapStep
  | .irPause_0 | .irPause_1 => .tapStep
  | .irExit2_0 | .irExit2_1 => .tapStep
  | .irUpdate_0 | .irUpdate_1 => .tapStep

/-- A word's number fits the length it is given with. -/
theorem tableNumber_fits {n : Nat} (c : CodeWord n) : c.tableNumber.2 < 2 ^ c.tableNumber.1 := by
  cases c with
  | pinSample q =>
    obtain ⟨a, b, d⟩ := q
    cases a <;> cases b <;> cases d <;> simp [CodeWord.tableNumber]
  | tapStep bits tdi =>
    have := bits.isLt
    cases tdi <;> simp [CodeWord.tableNumber] <;> omega
  | irWord w =>
    exact Nat.lt_of_lt_of_le w.isLt (Nat.pow_le_pow_right (by decide) (by show n ≤ irWordBits n; unfold irWordBits; omega))

namespace EncodingFormat

/-- An instruction's word is in the format of its row, and its number fits its length. -/
def Statement (i : Instr) : Prop :=
  ∀ p : Params, formatOf (encode p i) = rowFormat i ∧ (encode p i).tableNumber.2 < 2 ^ (encode p i).tableNumber.1

theorem step (tms tck tdi : Bool) : Statement (.step tms tck tdi) := fun _ => ⟨rfl, tableNumber_fits _⟩
theorem bypass : Statement .bypass := fun _ => ⟨rfl, tableNumber_fits _⟩
theorem idcode : Statement .idcode := fun _ => ⟨rfl, tableNumber_fits _⟩
theorem extest : Statement .extest := fun _ => ⟨rfl, tableNumber_fits _⟩
theorem sample : Statement .sample := fun _ => ⟨rfl, tableNumber_fits _⟩
theorem unknown (w : Nat) : Statement (.unknown w) := fun _ => ⟨rfl, tableNumber_fits _⟩
theorem reset_0 : Statement .reset_0 := fun _ => ⟨rfl, tableNumber_fits _⟩
theorem reset_1 : Statement .reset_1 := fun _ => ⟨rfl, tableNumber_fits _⟩
theorem idle_0 : Statement .idle_0 := fun _ => ⟨rfl, tableNumber_fits _⟩
theorem idle_1 : Statement .idle_1 := fun _ => ⟨rfl, tableNumber_fits _⟩
theorem drScan_0 : Statement .drScan_0 := fun _ => ⟨rfl, tableNumber_fits _⟩
theorem drScan_1 : Statement .drScan_1 := fun _ => ⟨rfl, tableNumber_fits _⟩
theorem drCapture_0 : Statement .drCapture_0 := fun _ => ⟨rfl, tableNumber_fits _⟩
theorem drCapture_1 : Statement .drCapture_1 := fun _ => ⟨rfl, tableNumber_fits _⟩
theorem drShift_0 (tdi : Bool) : Statement (.drShift_0 tdi) := fun _ => ⟨rfl, tableNumber_fits _⟩
theorem drShift_1 (tdi : Bool) : Statement (.drShift_1 tdi) := fun _ => ⟨rfl, tableNumber_fits _⟩
theorem drExit1_0 : Statement .drExit1_0 := fun _ => ⟨rfl, tableNumber_fits _⟩
theorem drExit1_1 : Statement .drExit1_1 := fun _ => ⟨rfl, tableNumber_fits _⟩
theorem drPause_0 : Statement .drPause_0 := fun _ => ⟨rfl, tableNumber_fits _⟩
theorem drPause_1 : Statement .drPause_1 := fun _ => ⟨rfl, tableNumber_fits _⟩
theorem drExit2_0 : Statement .drExit2_0 := fun _ => ⟨rfl, tableNumber_fits _⟩
theorem drExit2_1 : Statement .drExit2_1 := fun _ => ⟨rfl, tableNumber_fits _⟩
theorem drUpdate_0 : Statement .drUpdate_0 := fun _ => ⟨rfl, tableNumber_fits _⟩
theorem drUpdate_1 : Statement .drUpdate_1 := fun _ => ⟨rfl, tableNumber_fits _⟩
theorem irScan_0 : Statement .irScan_0 := fun _ => ⟨rfl, tableNumber_fits _⟩
theorem irScan_1 : Statement .irScan_1 := fun _ => ⟨rfl, tableNumber_fits _⟩
theorem irCapture_0 : Statement .irCapture_0 := fun _ => ⟨rfl, tableNumber_fits _⟩
theorem irCapture_1 : Statement .irCapture_1 := fun _ => ⟨rfl, tableNumber_fits _⟩
theorem irShift_0 (tdi : Bool) : Statement (.irShift_0 tdi) := fun _ => ⟨rfl, tableNumber_fits _⟩
theorem irShift_1 (tdi : Bool) : Statement (.irShift_1 tdi) := fun _ => ⟨rfl, tableNumber_fits _⟩
theorem irExit1_0 : Statement .irExit1_0 := fun _ => ⟨rfl, tableNumber_fits _⟩
theorem irExit1_1 : Statement .irExit1_1 := fun _ => ⟨rfl, tableNumber_fits _⟩
theorem irPause_0 : Statement .irPause_0 := fun _ => ⟨rfl, tableNumber_fits _⟩
theorem irPause_1 : Statement .irPause_1 := fun _ => ⟨rfl, tableNumber_fits _⟩
theorem irExit2_0 : Statement .irExit2_0 := fun _ => ⟨rfl, tableNumber_fits _⟩
theorem irExit2_1 : Statement .irExit2_1 := fun _ => ⟨rfl, tableNumber_fits _⟩
theorem irUpdate_0 : Statement .irUpdate_0 := fun _ => ⟨rfl, tableNumber_fits _⟩
theorem irUpdate_1 : Statement .irUpdate_1 := fun _ => ⟨rfl, tableNumber_fits _⟩

end EncodingFormat
end Laws
end Sys2Proof
end

