-- ==== Sys2Proof/Tests/Slice0.lean ====
section
/-! SUPPORT. The model's own tests. Expected results are from spec/95_test_vectors.md (the table is named at each group) or worked out by hand
from the rule named. Then the WellFormed smoke tests, and a witness for every statement that has hypotheses. -/

namespace Sys2Proof
namespace Tests

open Machine

/-- The parameters of spec 95. -/
def vd : Params := Params.vectorDefaults

/-- The pre-state of V2.1, with `prev_tck` = 0. -/
def pre (st : TapState) : State := ⟨vd, st, 0x0009#16, .idcode 0x12345678#32, false, false, []⟩

/-- The instruction of a `TAPSTEP` word, run from V2.1's pre-state of state `st` with `tdi` = 1. -/
def row (bits : BitVec 5) (st : TapState) : Option State := nextOf (exec (decode vd (.tapStep bits true)) (pre st))

/-- The post-state of a row of V2.1 (a `TAPSTEP` operation leaves `prev_tck` to the step). -/
def post (st : TapState) (ir : Bits 16) (reg : DataReg vd) (tdo : Bool) : State := ⟨vd, st, ir, reg, false, tdo, []⟩

-- V2.1: all 32 operations, each from its word.

theorem test_Reset_0 : row 0b00000#5 .reset = some (post .idle 0x0004#16 (.idcode 0x89BEEF01#32) false) := by decide
theorem test_Reset_1 : row 0b00001#5 .reset = some (post .reset 0x0009#16 (.idcode 0x12345678#32) false) := by decide
theorem test_Idle_0 : row 0b00010#5 .idle = some (post .idle 0x0009#16 (.idcode 0x12345678#32) false) := by decide
theorem test_Idle_1 : row 0b00011#5 .idle = some (post .drScan 0x0009#16 (.idcode 0x12345678#32) false) := by decide
theorem test_DrScan_0 : row 0b00100#5 .drScan = some (post .drCapture 0x0009#16 (.idcode 0x12345678#32) false) := by decide
theorem test_DrScan_1 : row 0b00101#5 .drScan = some (post .irScan 0x0009#16 (.idcode 0x12345678#32) false) := by decide
theorem test_DrCapture_0 : row 0b00110#5 .drCapture = some (post .drShift 0x0009#16 (.idcode 0x12345678#32) false) := by decide
theorem test_DrCapture_1 : row 0b00111#5 .drCapture = some (post .drExit1 0x0009#16 (.idcode 0x12345678#32) false) := by decide
theorem test_DrShift_0 : row 0b01000#5 .drShift = some (post .drShift 0x0009#16 (.idcode 0x891A2B3C#32) false) := by decide
theorem test_DrShift_1 : row 0b01001#5 .drShift = some (post .drExit1 0x0009#16 (.idcode 0x891A2B3C#32) false) := by decide
theorem test_DrExit1_0 : row 0b01010#5 .drExit1 = some (post .drPause 0x0009#16 (.idcode 0x12345678#32) false) := by decide
theorem test_DrExit1_1 : row 0b01011#5 .drExit1 = some (post .drUpdate 0x0009#16 (.idcode 0x12345678#32) false) := by decide
theorem test_DrPause_0 : row 0b01100#5 .drPause = some (post .drPause 0x0009#16 (.idcode 0x12345678#32) false) := by decide
theorem test_DrPause_1 : row 0b01101#5 .drPause = some (post .drExit2 0x0009#16 (.idcode 0x12345678#32) false) := by decide
theorem test_DrExit2_0 : row 0b01110#5 .drExit2 = some (post .drShift 0x0009#16 (.idcode 0x12345678#32) false) := by decide
theorem test_DrExit2_1 : row 0b01111#5 .drExit2 = some (post .drUpdate 0x0009#16 (.idcode 0x12345678#32) false) := by decide
theorem test_DrUpdate_0 : row 0b10000#5 .drUpdate = some (post .idle 0x0009#16 (.idcode 0x12345678#32) false) := by decide
theorem test_DrUpdate_1 : row 0b10001#5 .drUpdate = some (post .drScan 0x0009#16 (.idcode 0x12345678#32) false) := by decide
theorem test_IrScan_0 : row 0b10010#5 .irScan = some (post .irCapture 0x0009#16 (.idcode 0x12345678#32) false) := by decide
theorem test_IrScan_1 : row 0b10011#5 .irScan = some (post .reset 0x0009#16 (.idcode 0x12345678#32) false) := by decide
theorem test_IrCapture_0 : row 0b10100#5 .irCapture = some (post .irShift 0x0009#16 (.idcode 0x12345678#32) false) := by decide
theorem test_IrCapture_1 : row 0b10101#5 .irCapture = some (post .irExit1 0x0009#16 (.idcode 0x12345678#32) false) := by decide
theorem test_IrShift_0 : row 0b10110#5 .irShift = some (post .irShift 0x8004#16 (.idcode 0x12345678#32) true) := by decide
theorem test_IrShift_1 : row 0b10111#5 .irShift = some (post .irExit1 0x8004#16 (.idcode 0x12345678#32) true) := by decide
theorem test_IrExit1_0 : row 0b11000#5 .irExit1 = some (post .irPause 0x0009#16 (.idcode 0x12345678#32) false) := by decide
theorem test_IrExit1_1 : row 0b11001#5 .irExit1 = some (post .irUpdate 0x0009#16 (.unknown 0xDEADBEEF#32) false) := by decide
theorem test_IrPause_0 : row 0b11010#5 .irPause = some (post .irPause 0x0009#16 (.idcode 0x12345678#32) false) := by decide
theorem test_IrPause_1 : row 0b11011#5 .irPause = some (post .irExit2 0x0009#16 (.idcode 0x12345678#32) false) := by decide
theorem test_IrExit2_0 : row 0b11100#5 .irExit2 = some (post .irShift 0x0009#16 (.idcode 0x12345678#32) false) := by decide
theorem test_IrExit2_1 : row 0b11101#5 .irExit2 = some (post .irUpdate 0x0009#16 (.unknown 0xDEADBEEF#32) false) := by decide
theorem test_IrUpdate_0 : row 0b11110#5 .irUpdate = some (post .idle 0x0009#16 (.idcode 0x12345678#32) false) := by decide
theorem test_IrUpdate_1 : row 0b11111#5 .irUpdate = some (post .drScan 0x0009#16 (.idcode 0x12345678#32) false) := by decide

-- V4.1: the commit of each JTAG instruction, from the opcode in `IR` on the edge of `IrExit2.1`.

/-- The machine about to commit opcode `w`. -/
def committing (w : Bits 16) : State := ⟨vd, .irExit2, w, .idcode 1#32, false, false, []⟩

/-- `sel` and `DR` after `S 1 1 0`. -/
def committed (w : Bits 16) : Option (Entry × Nat) :=
  (nextOf (exec (.step true true false) (committing w))).map fun t => (t.sel, t.dr)

theorem test_commit_BYPASS : committed 0xFFFF#16 = some (.bypass, 0) := by decide
theorem test_commit_IDCODE : committed 0x0004#16 = some (.idcode, 0x89BEEF01) := by decide
theorem test_commit_EXTEST : committed 0x0000#16 = some (.bsr, 0x55AA55AA) := by decide
theorem test_commit_SAMPLE : committed 0x0001#16 = some (.bsr, 0x55AA55AA) := by decide
theorem test_commit_UNKNOWN : committed 0x0009#16 = some (.unknown, 0xDEADBEEF) := by decide
theorem test_commit_no_partial_match : committed 0x8004#16 = some (.unknown, 0xDEADBEEF) := by decide

/-- V4.3: with other parameters the EXTEST row moves and 0x0000 is no longer decoded. -/
theorem test_commit_follows_parameters :
    decodeEntry { vd with opcExtest := 2#16, opcSample := 3#16, bsrReload := 0#32 } 2#16 = .bsr ∧
      decodeEntry { vd with opcExtest := 2#16, opcSample := 3#16, bsrReload := 0#32 } 0#16 = .unknown := by decide

/-- R4: an instance with another `DEVICE_ID` and another `OPC_IDCODE` forces those on leaving `Reset`. -/
theorem test_forced_load_follows_parameters :
    (nextOf (step ((State.init { vd with deviceId := 0x12345679#32, opcIdcode := 0x0007#16 }).present ⟨false, true, false⟩))).map
      (fun t => (t.irNum, t.sel, t.dr)) = some (0x0007, .idcode, 0x12345679) := by decide

/-- R4, D9: an instance with other widths: `IR` of 4 bits, a `Bypass` register of 2 bits, an `Idcode` register of 8 bits. -/
def narrow : Params where
  irWidth := 4
  lenBypass := 2
  lenIdcode := 8
  opcExtest := 2#4
  opcSample := 3#4
  bsrReload := 7#32
  prevTckInit := false
  tdoInit := false

/-- All ones at the width of the instance is BYPASS, and 9 is still unrecognised. -/
theorem test_narrow_decode : decodeEntry narrow 0xF#4 = .bypass ∧ decodeEntry narrow 0x9#4 = .unknown := by decide

/-- R100 with N = 4 and N = 2, worked by hand: `tdi` lands at the top bit of the instance's register. -/
theorem test_narrow_shift :
    (nextOf (exec (.irShift_0 true) { State.init narrow with ir := 0x4#4 })).map (fun t => (t.tdo, t.irNum)) = some (false, 0xA) ∧
      (nextOf (exec (.drShift_0 true) { State.init narrow with reg := .bypass 1#2 })).map (fun t => (t.tdo, t.dr)) =
        some (true, 2) := by decide

/-- R118: an OPEN opcode that collides with `OPC_BYPASS` loses to it. -/
theorem test_collision_first_match : decodeEntry { vd with opcExtest := 0xFFFF#16, opcSample := 4#16, bsrReload := 0#32 } 0xFFFF#16 = .bypass := by decide

-- V1.1 and V1.3: the detector.

/-- A falling edge is no edge: only `prev_tck` changes, whatever `tms` and `tdi` are. -/
theorem test_STEP_falling_edge :
    nextOf (exec (.step true false true) { pre .drShift with prevTck := true }) = some (pre .drShift) := by decide

/-- A level held high is no edge. -/
theorem test_STEP_level_held :
    nextOf (exec (.step true true true) { pre .idle with prevTck := true }) = some { pre .idle with prevTck := true } := by
  decide

-- V3.1: the shift at its three lengths.

theorem test_shift_1 : shiftReg 1#1 false = (true, 0#1) := by decide
theorem test_shift_16 : shiftReg 0x7FFF#16 true = (true, 0xBFFF#16) := by decide
theorem test_shift_32 : shiftReg 0xDEADBEEF#32 false = (true, 0x6F56DF77#32) := by decide

/-- V3.2, row `DR Bypass`: one edge through the one-bit register. -/
theorem test_shift_bypass_register :
    (nextOf (exec (.drShift_0 true) ⟨vd, .drShift, 0xFFFF#16, .bypass 0#1, true, true, []⟩)).map
      (fun t => (t.tdo, t.sel, t.dr)) = some (false, .bypass, 1) := by decide

-- V5.1: initialisation and the first sample.

theorem test_reset : State.reset = ⟨vd, .reset, 0xFFFF#16, .bypass 0#1, false, false, []⟩ := by decide

/-- With `PREV_TCK_INIT` = 1 the first sample with `tck` = 1 is no edge. -/
theorem test_first_sample_prev_tck_1 :
    (nextOf (step ((State.init { vd with prevTckInit := true, tdoInit := true }).present ⟨false, true, false⟩))).map
      (fun t => (t.state, t.irNum, t.tdo, t.prevTck)) = some (.reset, 0xFFFF, true, true) := by decide

/-- With `PREV_TCK_INIT` = 0 it is one, and leaves `Reset` with the forced load. -/
theorem test_first_sample_prev_tck_0 :
    (nextOf (step (State.reset.present ⟨false, true, false⟩))).map
      (fun t => (t.state, t.irNum, t.sel, t.dr)) = some (.idle, 0x0004, .idcode, 0x89BEEF01) := by decide

/-- Where the host presents no sample nothing happens (R7). -/
theorem test_no_sample : nextOf (step State.reset) = some State.reset := by decide

-- Decoding: words of each format from the table.

theorem test_decode_BYPASS : decodeTableWord 16 0xFFFF = some .bypass := by decide
theorem test_decode_IDCODE : decodeTableWord 16 0x0004 = some .idcode := by decide
theorem test_decode_EXTEST : decodeTableWord 16 0x0000 = some .extest := by decide
theorem test_decode_SAMPLE : decodeTableWord 16 0x0001 = some .sample := by decide
theorem test_decode_UNKNOWN : decodeTableWord 16 0x1234 = some (.unknown 0x1234) := by decide
theorem test_decode_TAPSTEP : decodeTableWord 8 0b01001 = some (.drShift_1 false) := by decide
theorem test_decode_TAPSTEP_tdi : decodeTableWord 8 0b110110 = some (.irShift_0 true) := by decide
theorem test_decode_PINSAMPLE : decodeTableWord 3 0b011 = some (.step false true true) := by decide
theorem test_reject_length : decodeTableWord 7 1 = none := by decide
theorem test_reject_byte : decodeTableWord 8 72 = none := by decide

-- withFetchWord: the very next step after reset runs the word.

theorem test_fetch_BYPASS :
    (nextOf (step (State.reset.withFetchWord 16 0xFFFF))).map (fun t => (t.state, t.sel, t.dr)) =
      some (.irUpdate, .bypass, 0) := by decide
theorem test_fetch_EXTEST :
    (nextOf (step (State.reset.withFetchWord 16 0x0000))).map (fun t => (t.state, t.sel, t.dr)) =
      some (.irUpdate, .bsr, 0x55AA55AA) := by decide
theorem test_fetch_TAPSTEP :
    (nextOf (step (State.reset.withFetchWord 8 0b10110))).map (fun t => (t.state, t.irNum, t.tdo)) =
      some (.irShift, 0x7FFF, true) := by decide

-- WellFormed refuses, one theorem for each check.

theorem smoke_idcode_collides_with_bypass : Instr.wf { vd with opcIdcode := 0xFFFF#16 } .idcode = false := by decide
theorem smoke_extest_collides_with_bypass : Instr.wf { vd with opcExtest := 0xFFFF#16 } .extest = false := by decide
theorem smoke_extest_collides_with_idcode : Instr.wf { vd with opcExtest := 4#16 } .extest = false := by decide
theorem smoke_sample_collides_with_bypass : Instr.wf { vd with opcSample := 0xFFFF#16 } .sample = false := by decide
theorem smoke_sample_collides_with_idcode : Instr.wf { vd with opcSample := 4#16 } .sample = false := by decide
theorem smoke_sample_equals_extest : Instr.wf { vd with opcSample := 0#16 } .sample = false := by decide
theorem smoke_unknown_of_bypass : Instr.wf vd (.unknown 0xFFFF) = false := by decide
theorem smoke_unknown_of_idcode : Instr.wf vd (.unknown 4) = false := by decide
theorem smoke_unknown_of_extest : Instr.wf vd (.unknown 0) = false := by decide
theorem smoke_unknown_of_sample : Instr.wf vd (.unknown 1) = false := by decide
theorem smoke_unknown_too_wide : Instr.wf vd (.unknown 0x10000) = false := by decide

-- Witnesses: states and operands that meet the hypotheses of the statements in Certificates/Slice0/Obligations.lean.

/-- The state after the next presented sample `q`, where the step gives one. -/
def after (q : PinSample) (s : State) : State := (nextOf (step (s.present q))).getD s

/-- An edge with `tms` = 0 and `tdi` = 1. -/
def edge0 : PinSample := ⟨false, true, true⟩

/-- An edge with `tms` = 1 and `tdi` = 1. -/
def edge1 : PinSample := ⟨true, true, true⟩

theorem witness_NonEdge : ¬((pre .idle).prevTck = false ∧ false = true) := by decide
theorem witness_Edge : (pre .idle).prevTck = false ∧ true = true := by decide
theorem witness_StepRuns_sample : ((pre .idle).present edge0).inputs = [edge0] := by decide
theorem witness_StepRuns_none : (pre .idle).inputs = [] := by decide
theorem witness_CommittingNine :
    (pre .irExit1).params.Normative ∧ (pre .irExit1).params.Conforming ∧ (pre .irExit1).irNum = 0x0009 := by decide

theorem witness_Ir_shift :
    step ((pre .irShift).present edge0) = .next (after edge0 (pre .irShift)) ∧ (after edge0 (pre .irShift)).irNum ≠ (pre .irShift).irNum :=
  ⟨rfl, by decide⟩
theorem witness_Ir_forced :
    step ((pre .reset).present edge0) = .next (after edge0 (pre .reset)) ∧ (after edge0 (pre .reset)).irNum ≠ (pre .reset).irNum :=
  ⟨rfl, by decide⟩
theorem witness_Selection_commit :
    step ((pre .irExit1).present edge1) = .next (after edge1 (pre .irExit1)) ∧
      (after edge1 (pre .irExit1)).sel ≠ (pre .irExit1).sel := ⟨rfl, by decide⟩
theorem witness_Selection_forced :
    step ((State.reset).present edge0) = .next (after edge0 State.reset) ∧
      (after edge0 State.reset).sel ≠ State.reset.sel := ⟨rfl, by decide⟩
theorem witness_Dr_shift :
    step ((pre .drShift).present edge0) = .next (after edge0 (pre .drShift)) ∧
      (after edge0 (pre .drShift)).dr ≠ (pre .drShift).dr := ⟨rfl, by decide⟩
theorem witness_Dr_commit :
    step ((pre .irExit2).present edge1) = .next (after edge1 (pre .irExit2)) ∧
      (after edge1 (pre .irExit2)).dr ≠ (pre .irExit2).dr := ⟨rfl, by decide⟩
theorem witness_Dr_forced :
    step ((pre .reset).present edge0) = .next (after edge0 (pre .reset)) ∧
      (after edge0 (pre .reset)).dr ≠ (pre .reset).dr := ⟨rfl, by decide⟩
theorem witness_Tdo_ir :
    step ((pre .irShift).present edge1) = .next (after edge1 (pre .irShift)) ∧
      (after edge1 (pre .irShift)).tdo ≠ (pre .irShift).tdo := ⟨rfl, by decide⟩
theorem witness_Tdo_dr :
    step (State.present edge1 { pre .drShift with tdo := true }) = .next (after edge1 { pre .drShift with tdo := true }) ∧
      (after edge1 { pre .drShift with tdo := true }).tdo ≠ true := ⟨rfl, by decide⟩

/-- An edge moves `st` to another state `st'`. -/
abbrev moves (q : PinSample) (st st' : TapState) : Prop :=
  (nextOf (step ((pre st).present q))).map State.state = some st' ∧ st' ≠ st

theorem witness_Columns_dr_in : moves edge0 .drScan .drCapture := by decide
theorem witness_Columns_dr_out : moves edge1 .drUpdate .drScan ∧ moves edge0 .drUpdate .idle := by decide
theorem witness_Columns_ir_in : moves edge0 .irScan .irCapture := by decide
theorem witness_Columns_ir_out : moves edge1 .irUpdate .drScan ∧ moves edge0 .irUpdate .idle := by decide
theorem witness_Columns_shift :
    moves edge0 .drCapture .drShift ∧ moves edge0 .drExit2 .drShift ∧
      moves edge0 .irCapture .irShift ∧ moves edge0 .irExit2 .irShift := by decide
theorem witness_Columns_irUpdate : moves edge1 .irExit1 .irUpdate ∧ moves edge1 .irExit2 .irUpdate := by decide
theorem witness_Columns_reset : moves edge1 .irScan .reset := by decide

theorem witness_ParametersNeverChange : exec .idle_1 (pre .idle) = .next { pre .idle with state := .drScan } := rfl
theorem witness_SelectionCoherent :
    State.reset.params.opcIdcode ≠ State.reset.params.opcBypass ∧ State.selectionCoherent State.reset ∧
      step (State.reset.present edge0) = .next (after edge0 State.reset) :=
  ⟨by decide, fun _ => rfl, rfl⟩
theorem witness_InitialisationCoherent : vd.opcBypass = BitVec.allOnes vd.irWidth := by decide
theorem witness_SourceValues_bypass :
    (State.reset).params.Normative ∧ State.reset.irNum = 0xFFFF := by decide
theorem witness_SourceValues_idcode :
    (post .idle 4#16 (.bypass 0#1) false).params.Normative ∧ (post .idle 4#16 (.bypass 0#1) false).irNum = 0x0004 := by decide
theorem witness_DataRegisterContents :
    (DataReg.idcode (p := vd) 7#32).sel = (pre .drShift).sel ∧ (observe [edge0] (pre .drShift)).isSome = true ∧
      (observe [edge0] { pre .drShift with reg := .idcode 7#32 }).isSome = true := by decide
theorem witness_wf :
    Instr.wf vd .bypass = true ∧ Instr.wf vd .idcode = true ∧ Instr.wf vd .extest = true ∧ Instr.wf vd .sample = true ∧ Instr.wf vd (.unknown 2) = true ∧
      Instr.wf vd (.unknown 0xFFFE) = true ∧ Instr.wf vd (.step true true true) = true := by decide
theorem witness_ShiftMoves : (0 : Nat) < 31 ∧ 30 < 31 := by decide
theorem witness_DrScan : (pre .drShift).state = .drShift := rfl
theorem witness_IrScanLine : (pre .irShift).state = .irShift ∧ (pre .irShift).params.Normative := by decide
theorem witness_IrScan :
    (pre .idle).state = .idle ∧ (pre .drUpdate).state = .drUpdate ∧ (pre .irUpdate).state = .irUpdate := ⟨rfl, rfl, rfl⟩
theorem witness_LeavingReset : State.reset.state = .reset := rfl
theorem witness_SecondScan : (pre .idle).state = .idle ∧ (pre .idle).drLen = 32 := by decide
theorem witness_BypassDelays : (pre .idle).state = .idle ∧ (pre .idle).params.lenBypass = 1 := by decide
theorem witness_RepeatedLevel : exec (.step true true true) (pre .idle) = .next { pre .drScan with prevTck := true } := rfl

/-- Two sequences that differ in `tdi`, from states that differ in every register. -/
theorem witness_Tdi :
    [edge0].map (fun q => (q.tms, q.tck)) = [PinSample.mk false true false].map (fun q => (q.tms, q.tck)) ∧
      State.reset.state = (pre .reset).state ∧ State.reset.prevTck = (pre .reset).prevTck ∧
      (observe [edge0] State.reset).isSome = true ∧ (observe [⟨false, true, false⟩] (pre .reset)).isSome = true := by
  decide

end Tests
end Sys2Proof
end

section
/-! PROOFS. The family of 00_scope.md: the source's literals, the `Bsr` register, and what the contents of a data register can reach. First what
`exec` of an `IRWORD` and of a `TAPSTEP` row answers, then the relation "the same but for the contents of `DR` and `tdo`", kept by every sample. -/

namespace Sys2Proof
namespace Machine

-- What a row answers.

/-- An `IRWORD` row selects its entry and does nothing else (R117). -/
theorem exec_toInstr_eq_select (o : IrOp) (s : State) : exec o.toInstr s = .next (s.select o.entry) :=
  (exec_irOp o s).trans (execIrOp_eq o s)

/-- A `TAPSTEP` row answers its effect (R20), whatever state it is given (log 7). -/
theorem exec_tapInstr_eq_tapEffect (st : TapState) (tms tdi : Bool) (s : State) :
    exec (tapInstr st tms tdi) s = .next (tapEffect st tms tdi s) :=
  (exec_tapInstr st tms tdi s).trans (execTapOp_eq st tms tdi s)

@[simp] theorem State.select_drLen (s : State) (e : Entry) : (s.select e).drLen = e.len s.params := by
  simp [State.drLen]

/-- What an `IRWORD` row leaves in the bank: its entry, at the entry's length, with the entry's reload value (R16, R117). -/
theorem exec_toInstr_loads (o : IrOp) (s : State) :
    ∃ t, exec o.toInstr s = .next t ∧ t.sel = o.entry ∧ t.drLen = o.entry.len s.params ∧ t.dr = o.entry.reload s.params :=
  ⟨_, exec_toInstr_eq_select o s, s.select_sel _, s.select_drLen _, s.select_dr _⟩

/-- What `Reset.0` leaves in the registers: the forced load (R74). -/
theorem exec_reset_0_loads (s : State) :
    ∃ t, exec .reset_0 s = .next t ∧ t.irNum = s.params.opcIdcode.toNat ∧ t.sel = .idcode ∧ t.drLen = s.params.lenIdcode ∧
      t.dr = s.params.deviceId.toNat :=
  ⟨_, exec_tapInstr_eq_tapEffect .reset false false s, rfl, rfl, rfl, rfl⟩

@[simp] theorem length_scanBits {n : Nat} (v : Bits n) : (scanBits v).length = n := by
  simp [scanBits]

/-- The first row of R49. -/
theorem decode_irWord_opcBypass (p : Params) : decode p (.irWord p.opcBypass) = .bypass := by
  simp [decode, irOp, IrOp.toInstr]

/-- The second row of R49, where the first does not take its opcode (R118). -/
theorem decode_irWord_opcIdcode {p : Params} (h : p.opcIdcode ≠ p.opcBypass) : decode p (.irWord p.opcIdcode) = .idcode := by
  simp [decode, irOp, IrOp.toInstr, h]

/-- Settles O46: every literal is a parameter that the row's effect or the decode names, and `Params.Normative` fixes its value. -/
theorem theSourceValuesGiveTheSourceLiterals : Obligations.TheSourceValuesGiveTheSourceLiterals := by
  refine ⟨by decide, by decide, fun w s hs => ?_⟩
  obtain ⟨⟨hIr, hLenBypass, hLenIdcode, hLenBsr, hLenUnknown⟩, hOpcBypass, hOpcIdcode, hDevice, hUnknown, hBypass⟩ := hs
  have hne : s.params.opcIdcode ≠ s.params.opcBypass := fun h => by
    rw [h, hOpcBypass] at hOpcIdcode
    exact absurd hOpcIdcode (by decide)
  obtain ⟨t, ht, htIr, htSel, htLen, htDr⟩ := exec_reset_0_loads s
  obtain ⟨b, hb, hbSel, hbLen, hbDr⟩ := exec_toInstr_loads .bypass s
  obtain ⟨i, hi, hiSel, hiLen, hiDr⟩ := exec_toInstr_loads .idcode s
  obtain ⟨u, hu, huSel, huLen, huDr⟩ := exec_toInstr_loads (.unknown w) s
  refine ⟨t, b, i, u, ht, htIr.trans hOpcIdcode, htSel, htLen.trans hLenIdcode, htDr.trans hDevice,
    hb, hbSel, hbLen.trans hLenBypass, hbDr.trans hBypass,
    hi, hiSel, hiLen.trans hLenIdcode, hiDr.trans hDevice,
    hu, huSel, huLen.trans hLenUnknown, huDr.trans hUnknown,
    hLenBsr, (length_scanBits s.ir).trans hIr, fun h => ?_, fun h => ?_⟩
  · have hir : s.ir = s.params.opcBypass := BitVec.eq_of_toNat_eq (h.trans hOpcBypass.symm)
    rw [hir, decode_irWord_opcBypass]
  · have hir : s.ir = s.params.opcIdcode := BitVec.eq_of_toNat_eq (h.trans hOpcIdcode.symm)
    rw [hir, decode_irWord_opcIdcode hne]

/-- Settles O47: both opcodes select `Bsr` (R121, R122), and both rows of `DrShift` shift the register that is selected at its own length (R101). -/
theorem theBsrIsAPlainShiftRegister : Obligations.TheBsrIsAPlainShiftRegister := fun _ _ tdi =>
  ⟨exec_toInstr_eq_select .extest _, exec_toInstr_eq_select .sample _,
    exec_tapInstr_eq_tapEffect .drShift false tdi _, exec_tapInstr_eq_tapEffect .drShift true tdi _⟩

-- What the contents of a data register can reach.

/-- `s'` is `s` but for the contents of the selected data register and for `tdo`. -/
def SameButDr (s s' : State) : Prop :=
  ∃ (r : DataReg s.params) (b : Bool), r.sel = s.sel ∧ s' = { s with reg := r, tdo := b }

namespace SameButDr

variable {s s' : State}

/-- The elements that O48 speaks of. -/
theorem elements (h : SameButDr s s') :
    s.state = s'.state ∧ s.irNum = s'.irNum ∧ s.sel = s'.sel ∧ s.prevTck = s'.prevTck := by
  obtain ⟨r, b, hsel, rfl⟩ := h
  exact ⟨rfl, rfl, hsel.symm, rfl⟩

theorem goto (h : SameButDr s s') (n : TapState) : SameButDr (s.goto n) (s'.goto n) := by
  obtain ⟨r, b, hsel, rfl⟩ := h
  exact ⟨r, b, hsel, rfl⟩

theorem rememberTck (h : SameButDr s s') (tck : Bool) : SameButDr (s.rememberTck tck) (s'.rememberTck tck) := by
  obtain ⟨r, b, hsel, rfl⟩ := h
  exact ⟨r, b, hsel, rfl⟩

/-- The commit reads `IR`, and overwrites the data register. -/
theorem commit (h : SameButDr s s') :
    SameButDr (s.select (decodeEntry s.params s.ir)) (s'.select (decodeEntry s'.params s'.ir)) := by
  obtain ⟨r, b, -, rfl⟩ := h
  exact ⟨loadEntry s.params (decodeEntry s.params s.ir), b, rfl, rfl⟩

theorem forceIdcode (h : SameButDr s s') : SameButDr s.forceIdcode s'.forceIdcode := by
  obtain ⟨r, b, -, rfl⟩ := h
  exact ⟨.idcode s.params.deviceId, b, rfl, rfl⟩

/-- An IR shift drives `tdo` from `IR`, the same in both. -/
theorem shiftIr (h : SameButDr s s') (tdi : Bool) : SameButDr (s.shiftIr tdi) (s'.shiftIr tdi) := by
  obtain ⟨r, b, hsel, rfl⟩ := h
  exact ⟨r, (shiftReg s.ir tdi).1, hsel, rfl⟩

/-- A DR shift moves the contents to `tdo` and leaves the selection (R22 (a)). -/
theorem shiftDr (h : SameButDr s s') (tdi : Bool) : SameButDr (s.shiftDr tdi) (s'.shiftDr tdi) := by
  obtain ⟨r, b, hsel, rfl⟩ := h
  have hkept : (r.shift tdi).2.sel = (s.shiftDr tdi).sel := (r.shift_sel tdi).trans (hsel.trans (s.shiftDr_sel tdi).symm)
  exact ⟨(r.shift tdi).2, (r.shift tdi).1, hkept, rfl⟩

/-- One edge: each row of R20 is one of the operations above, then the new state. -/
theorem tapEffect (h : SameButDr s s') (st : TapState) (tms tdi : Bool) :
    SameButDr (Machine.tapEffect st tms tdi s) (Machine.tapEffect st tms tdi s') := by
  cases st with
  | reset =>
    cases tms
    · exact h.forceIdcode.goto .idle
    · exact h.goto .reset
  | drShift => exact (h.shiftDr tdi).goto (nextState .drShift tms)
  | irShift => exact (h.shiftIr tdi).goto (nextState .irShift tms)
  | irExit1 | irExit2 =>
    cases tms
    · exact h.goto _
    · exact h.commit.goto .irUpdate
  | _ => exact h.goto _

/-- One sample: the level and the TAP state, on which the edge and its row depend, are the same in both. -/
theorem sampleEffect (h : SameButDr s s') (q : PinSample) :
    SameButDr (Machine.sampleEffect q s) (Machine.sampleEffect q s') := by
  obtain ⟨hstate, -, -, hprev⟩ := h.elements
  unfold Machine.sampleEffect
  rw [← hstate, ← hprev]
  split
  · exact (h.rememberTck q.tck).tapEffect s.state q.tms q.tdi
  · exact h.rememberTck q.tck

/-- Every sample sequence. -/
theorem observe {qs : List PinSample} {os os' : List Bool} {t t' : State} (h : SameButDr s s')
    (ht : Machine.observe qs s = some (os, t)) (ht' : Machine.observe qs s' = some (os', t')) : SameButDr t t' := by
  induction qs generalizing s s' os os' with
  | nil =>
    cases ht
    cases ht'
    exact h
  | cons q qs ih =>
    rw [observe_cons, Option.map_eq_some_iff] at ht ht'
    obtain ⟨⟨us, u⟩, hu, hut⟩ := ht
    obtain ⟨⟨us', u'⟩, hu', hut'⟩ := ht'
    cases hut
    cases hut'
    exact ih (h.sampleEffect q) hu hu'

end SameButDr

/-- Settles O48: two states with the same selection and other contents are the same but for `DR`, and every sample keeps them so. -/
theorem dataRegisterContentsReachOnlyTdo : Obligations.DataRegisterContentsReachOnlyTdo :=
  fun _ s r _ _ _ _ hsel ht ht' =>
    have hstart : SameButDr s { s with reg := r } := ⟨r, s.tdo, hsel, rfl⟩
    (hstart.observe ht ht').elements

end Machine
end Sys2Proof
end

section
/-! PROOFS. The family of 10_state.md: the elements after initialisation, who writes which element, and the selection invariant. First the rows
of R20 by what they write, and that only an edge changes an element; each statement about a writer is a case split over those rows. -/

namespace Sys2Proof
namespace Machine

-- What an edge writes.

/-- The rows of R20 by what they write: the forced load, the two shifts, the commit, and the rows that only move, none of which enters
`IrUpdate`. `EdgeRow st tms tdi s t`: the row of (`st`, `tms`) takes `s` to `t`. -/
inductive EdgeRow (st : TapState) (tms tdi : Bool) (s : State) : State → Prop where
  | forcedLoad (hst : st = .reset) (htms : tms = false) : EdgeRow st tms tdi s (s.forceIdcode.goto .idle)
  | drShift (hst : st = .drShift) : EdgeRow st tms tdi s ((s.shiftDr tdi).goto (nextState .drShift tms))
  | irShift (hst : st = .irShift) : EdgeRow st tms tdi s ((s.shiftIr tdi).goto (nextState .irShift tms))
  | commit (hst : st = .irExit1 ∨ st = .irExit2) (htms : tms = true) :
      EdgeRow st tms tdi s ((s.select (decodeEntry s.params s.ir)).goto .irUpdate)
  | move (hnext : nextState st tms ≠ .irUpdate) : EdgeRow st tms tdi s (s.goto (nextState st tms))

/-- Every edge is one of these rows. -/
theorem edgeRow_tapEffect (st : TapState) (tms tdi : Bool) (s : State) : EdgeRow st tms tdi s (tapEffect st tms tdi s) := by
  cases st with
  | reset =>
    cases tms
    · exact .forcedLoad rfl rfl
    · exact .move (by decide)
  | drShift => exact .drShift rfl
  | irShift => exact .irShift rfl
  | irExit1 | irExit2 =>
    cases tms
    · exact .move (by decide)
    · exact .commit (by decide) rfl
  | _ => exact .move (by cases tms <;> decide)

/-- A step that changes any element but `prev_tck` is an edge (R62, R71), and does what that edge's row does. -/
theorem step_edgeRow_of_changed {s t : State} (h : step s = .next t)
    (hne : t.state ≠ s.state ∨ t.irNum ≠ s.irNum ∨ t.sel ≠ s.sel ∨ t.dr ≠ s.dr ∨ t.tdo ≠ s.tdo) :
    ∃ q rest, s.inputs = q :: rest ∧ s.prevTck = false ∧ q.tck = true ∧
      EdgeRow s.state q.tms q.tdi { s with inputs := rest, prevTck := true } t := by
  rcases step_edge_or_kept h with ⟨hstate, hir, hsel, hdr, htdo⟩ | ⟨q, rest, hi, hprev, htck, rfl⟩
  · rcases hne with hne | hne | hne | hne | hne <;> contradiction
  · exact ⟨q, rest, hi, hprev, htck, edgeRow_tapEffect ..⟩

/-- Every row moves as the transition table says. -/
theorem EdgeRow.state_eq {st : TapState} {tms tdi : Bool} {s t : State} (h : EdgeRow st tms tdi s t) :
    t.state = nextState st tms := by
  cases h with
  | forcedLoad hst htms => rw [hst, htms]; rfl
  | drShift hst => rw [hst]; rfl
  | irShift hst => rw [hst]; rfl
  | commit hst htms => rcases hst with rfl | rfl <;> rw [htms] <;> rfl
  | move => rfl

@[simp] theorem sampleEffect_params (q : PinSample) (s : State) : (sampleEffect q s).params = s.params := by
  unfold sampleEffect
  split <;> simp

@[simp] theorem sampleEffect_inputs (q : PinSample) (s : State) : (sampleEffect q s).inputs = s.inputs := by
  unfold sampleEffect
  split <;> simp

/-- `STEP` answers the effect of its sample. -/
theorem exec_step_eq_sampleEffect (tms tck tdi : Bool) (s : State) :
    exec (.step tms tck tdi) s = .next (sampleEffect ⟨tms, tck, tdi⟩ s) :=
  execStep_eq tms tck tdi s

/-- No instruction writes the parameters or takes a waiting sample. -/
theorem exec_params_inputs {i : Instr} {s t : State} (h : exec i s = .next t) : t.params = s.params ∧ t.inputs = s.inputs := by
  cases i with
  | step tms tck tdi =>
    cases (exec_step_eq_sampleEffect tms tck tdi s).symm.trans h
    exact ⟨sampleEffect_params _ s, sampleEffect_inputs _ s⟩
  | irExit1_1 | irExit2_1 =>
    cases (commitIr_eq (s.goto .irUpdate)).symm.trans h
    exact ⟨rfl, rfl⟩
  | _ =>
    cases h
    exact ⟨rfl, rfl⟩

/-- A step writes no parameter and takes at most the oldest waiting sample. -/
theorem step_params_inputs {s t : State} (h : step s = .next t) : t.params = s.params ∧ t.inputs = s.inputs.tail := by
  rcases step_cases s with ⟨hnone, hstep⟩ | ⟨q, rest, hsome, hstep⟩
  · cases hstep.symm.trans h
    exact ⟨rfl, by rw [hnone]; rfl⟩
  · rw [hsome]
    exact exec_params_inputs (i := .step q.tms q.tck q.tdi) (hstep.symm.trans h)

-- The selection invariant, operation by operation.

@[simp] theorem decodeEntry_opcBypass (p : Params) : decodeEntry p p.opcBypass = .bypass := by
  simp [decodeEntry, irOp, IrOp.entry]

theorem decodeEntry_opcIdcode {p : Params} (h : p.opcIdcode ≠ p.opcBypass) : decodeEntry p p.opcIdcode = .idcode := by
  simp [decodeEntry, irOp, IrOp.entry, h]

/-- An IR scan is left only through `IrUpdate`, whose entry is the commit. -/
theorem midIrScan_of_nextState {st : TapState} {tms : Bool} (hmid : midIrScan (nextState st tms) = false)
    (hne : nextState st tms ≠ .irUpdate) : midIrScan st = false := by
  cases st with
  | irShift | irPause => cases tms <;> exact hmid
  | irExit1 | irExit2 =>
    cases tms
    · exact hmid
    · exact absurd rfl hne
  | _ => rfl

/-- The invariant on the views, where the width of `IR` is in no type. -/
theorem State.selectionCoherent_iff (s : State) :
    s.selectionCoherent ↔ (midIrScan s.state = false → s.sel = decodeNum s.params s.irNum) := by
  rw [State.irNum, decodeNum_toNat]
  rfl

/-- Every row keeps the invariant: the forced load and the commit establish it, a shift of `IR` stays in the scan, and the other rows write
neither `sel` nor `IR` and leave a scan only by the commit. -/
theorem EdgeRow.selectionCoherent {tms tdi : Bool} {s t : State} (h : EdgeRow s.state tms tdi s t)
    (hopc : s.params.opcIdcode ≠ s.params.opcBypass) (hs : s.selectionCoherent) : t.selectionCoherent := by
  intro hmid
  cases h with
  | forcedLoad => exact (decodeEntry_opcIdcode hopc).symm
  | drShift hst => exact (s.shiftDr_sel tdi).trans (hs (by rw [hst]; rfl))
  | irShift => cases tms <;> cases hmid
  | commit => exact s.select_sel _
  | move hnext => exact hs (midIrScan_of_nextState hmid hnext)

/-- Settles O25: a step that is no edge keeps all that the invariant reads, and an edge keeps the invariant row by row. -/
theorem everyStepKeepsTheSelectionCoherent : Obligations.EveryStepKeepsTheSelectionCoherent := by
  intro s t hopc hs h
  rcases step_edge_or_kept h with ⟨hstate, hir, hsel, -, -⟩ | ⟨q, rest, -, -, -, rfl⟩
  · rw [State.selectionCoherent_iff] at hs ⊢
    rw [hstate, hir, hsel, (step_params_inputs h).1]
    exact hs
  · exact EdgeRow.selectionCoherent (s := { s with inputs := rest, prevTck := true }) (edgeRow_tapEffect ..) hopc hs

-- Who writes what.

/-- Settles O18: of the rows of R20, the IR shift and the forced load write `IR`. -/
theorem irIsWrittenOnlyByItsShiftAndTheForcedLoad : Obligations.IrIsWrittenOnlyByItsShiftAndTheForcedLoad := by
  intro s t h hne
  obtain ⟨q, rest, hi, hprev, htck, hrow⟩ := step_edgeRow_of_changed h (.inr (.inl hne))
  refine ⟨q, rest, hi, hprev, htck, ?_⟩
  cases hrow with
  | irShift hst => exact .inl ⟨hst, shiftReg_toNat_shiftInto s.params.widths_pos.1 s.ir q.tdi⟩
  | forcedLoad hst htms => exact .inr ⟨hst, htms, rfl, rfl⟩
  | drShift | commit | move => exact absurd rfl hne

/-- Settles O19: of the rows of R20, the commit and the forced load write `sel`; the DR shift keeps it. -/
theorem selectionIsWrittenOnlyByACommit : Obligations.SelectionIsWrittenOnlyByACommit := by
  intro s t h hne
  obtain ⟨q, rest, hi, hprev, htck, hrow⟩ := step_edgeRow_of_changed h (.inr (.inr (.inl hne)))
  refine ⟨q, rest, hi, hprev, htck, ?_⟩
  cases hrow with
  | commit hst htms => exact .inl ⟨hst, htms, rfl, State.select_sel _ _⟩
  | forcedLoad hst htms => exact .inr ⟨hst, htms, rfl, rfl⟩
  | drShift => exact absurd (State.shiftDr_sel _ q.tdi) hne
  | irShift | move => exact absurd rfl hne

/-- Settles O20: of the rows of R20, the DR shift, the commit and the forced load write `DR`. -/
theorem drIsWrittenOnlyByItsShiftAndReloads : Obligations.DrIsWrittenOnlyByItsShiftAndReloads := by
  intro s t h hne
  obtain ⟨q, rest, hi, hprev, htck, hrow⟩ := step_edgeRow_of_changed h (.inr (.inr (.inr (.inl hne))))
  refine ⟨q, rest, hi, hprev, htck, ?_⟩
  cases hrow with
  | drShift hst => exact .inl ⟨hst, s.reg.shift_num q.tdi⟩
  | commit hst htms => exact .inr (.inl ⟨hst, htms, State.select_dr _ _⟩)
  | forcedLoad hst htms => exact .inr (.inr ⟨hst, htms, rfl⟩)
  | irShift | move => exact absurd rfl hne

/-- Settles O21: of the rows of R20, the two shifts drive `tdo`, each with the bit that leaves its register. -/
theorem tdoIsDrivenOnlyByAShift : Obligations.TdoIsDrivenOnlyByAShift := by
  intro s t h hne
  obtain ⟨q, rest, hi, hprev, htck, hrow⟩ := step_edgeRow_of_changed h (.inr (.inr (.inr (.inr hne))))
  refine ⟨q, rest, hi, hprev, htck, ?_⟩
  cases hrow with
  | drShift hst => exact .inl ⟨hst, s.reg.shift_out q.tdi⟩
  | irShift hst => exact .inr ⟨hst, shiftReg_out s.ir q.tdi⟩
  | forcedLoad | commit | move => exact absurd rfl hne

/-- Settles O22: only an edge moves, and every row moves as the transition table says. -/
theorem theStateMovesOnlyOnAnEdge : Obligations.TheStateMovesOnlyOnAnEdge := by
  intro s t h hne
  obtain ⟨q, rest, hi, hprev, htck, hrow⟩ := step_edgeRow_of_changed h (.inl hne)
  exact ⟨q, rest, hi, hprev, htck, hrow.state_eq⟩

/-- Settles O24: an instruction is taken row by row, and a step is the `STEP` of the sample it has taken. -/
theorem parametersNeverChange : Obligations.ParametersNeverChange :=
  ⟨fun _ _ _ => exec_params_inputs, fun _ _ => step_params_inputs⟩

-- Initialisation, and the bound on `DR`.

/-- Settles O1: the initial state, element by element; `IR` of all ones is the largest number of its width. -/
theorem initialisationSetsEveryElement : Obligations.InitialisationSetsEveryElement := by
  intro p
  have hir : (State.init p).irNum = 2 ^ p.irWidth - 1 := BitVec.toNat_allOnes
  refine ⟨?_, rfl, rfl⟩
  rw [State.elements, hir]
  rfl

/-- Settles O26: the initial `IR` is `OPC_BYPASS`, whose decode is the initial selection. -/
theorem initialisationIsSelectionCoherent : Obligations.InitialisationIsSelectionCoherent := by
  intro p hopc _
  have hdecode : decodeEntry p (BitVec.allOnes p.irWidth) = .bypass := hopc ▸ decodeEntry_opcBypass p
  exact hdecode.symm

/-- Settles O27: the tagged register carries its own length (R13). -/
theorem drFitsTheSelectedLength : Obligations.DrFitsTheSelectedLength := fun s => s.reg.num_lt

end Machine
end Sys2Proof
end

section
/-! PROOFS. The family of 20_memory.md: presenting the level that `prev_tck` already holds is no edge, and remembers what is remembered. -/

namespace Sys2Proof
namespace Machine

/-- A repeated level is no edge (R60). -/
@[simp] theorem risingEdge_self (tck : Bool) : risingEdge tck tck = false := Bool.not_and_self tck

@[simp] theorem State.rememberTck_prevTck_self (s : State) : s.rememberTck s.prevTck = s := rfl

/-- A sample at the remembered level changes nothing, whatever its `tms` and `tdi` (R36, R63 (c)). -/
theorem sampleEffect_of_tck_eq_prevTck {q : PinSample} {s : State} (h : q.tck = s.prevTck) : sampleEffect q s = s := by
  simp [sampleEffect, h]

/-- Settles O42: the first step leaves `prev_tck` = `tck`, the level that the second presents again. -/
theorem aRepeatedLevelChangesNothing : Obligations.ARepeatedLevelChangesNothing := by
  intro tms tms' tck tdi tdi' s t h
  cases (exec_step_eq_sampleEffect tms tck tdi s).symm.trans h
  have hlevel : tck = (sampleEffect ⟨tms, tck, tdi⟩ s).prevTck := (sampleEffect_prevTck ⟨tms, tck, tdi⟩ s).symm
  rw [exec_step_eq_sampleEffect, sampleEffect_of_tck_eq_prevTck hlevel]

end Machine
end Sys2Proof
end

section
/-! PROOFS. The family of 30_encoding.md, its words. Each format has one round trip: an opcode class and its word, the pair (`state`, `tms`) and its
five bits, and a word of any format and its table number. -/

namespace Sys2Proof

-- `IRWORD`: an opcode class and its word.

/-- The word of an opcode class (R47, R49). -/
def IrOp.word (p : Params) : IrOp → Bits p.irWidth
  | .bypass => p.opcBypass
  | .idcode => p.opcIdcode
  | .extest => p.opcExtest
  | .sample => p.opcSample
  | .unknown w => BitVec.ofNat p.irWidth w

@[simp] theorem encode_toInstr (p : Params) (o : IrOp) : encode p o.toInstr = .irWord (o.word p) := by
  cases o <;> rfl

/-- A committed value is the word of its class: each row of R49 tests for its own opcode, and the last carries the value. -/
@[simp] theorem word_irOp (p : Params) (w : Bits p.irWidth) : (irOp p w).word p = w := by
  unfold irOp
  split_ifs with hBypass hIdcode hExtest hSample
  · exact hBypass.symm
  · exact hIdcode.symm
  · exact hExtest.symm
  · exact hSample.symm
  · exact (BitVec.ofNat_toNat ..).trans (BitVec.setWidth_eq w)

/-- An `IRWORD` instruction is well-formed exactly if its word is in its own class: no earlier row of R49 takes the word (R118), and the value that
`UNKNOWN` carries fits `IR`. -/
theorem wf_toInstr_iff (p : Params) (o : IrOp) : o.toInstr.wf p = true ↔ irOp p (o.word p) = o := by
  cases o with
  | unknown w =>
    have hfits : w % 2 ^ p.irWidth = w ↔ w < 2 ^ p.irWidth := Nat.mod_eq_iff_lt (Nat.two_pow_pos _).ne'
    simp [IrOp.toInstr, Instr.wf, opcodeFree, irOp, IrOp.word, ite_eq_iff, hfits, and_assoc, and_comm, and_left_comm]
  | _ => simp [IrOp.toInstr, Instr.wf, opcodeFree, irOp, IrOp.word, ite_eq_iff, and_assoc]

/-- The round trip of `IRWORD`, from the instruction. -/
theorem decode_encode_toInstr {p : Params} {o : IrOp} (h : o.toInstr.wf p = true) : decode p (encode p o.toInstr) = o.toInstr := by
  rw [encode_toInstr, decode, (wf_toInstr_iff p o).mp h]

-- `TAPSTEP`: the pair (`state`, `tms`) and its five bits.

@[simp] theorem TapState.ofNum_num (st : TapState) : TapState.ofNum st.num = st := by
  cases st <;> rfl

/-- `ssss` of `ssss t` is the state's number (R51). -/
@[simp] theorem tapBits_state (st : TapState) (tms : Bool) : (tapBits st tms).extractLsb' 1 4 = st.num := by
  cases st <;> cases tms <;> rfl

/-- `t` of `ssss t` is `tms` (R51). -/
@[simp] theorem tapBits_tms (st : TapState) (tms : Bool) : (tapBits st tms).getLsbD 0 = tms := by
  cases st <;> cases tms <;> rfl

/-- Five bits are those of the state and the `tms` that they are read as. -/
@[simp] theorem tapBits_ofNum (bits : BitVec 5) : tapBits (TapState.ofNum (bits.extractLsb' 1 4)) (bits.getLsbD 0) = bits := by
  revert bits
  decide

@[simp] theorem decode_tapStep_tapBits (p : Params) (st : TapState) (tms tdi : Bool) :
    decode p (.tapStep (tapBits st tms) tdi) = tapInstr st tms tdi := by
  rw [decode, tapBits_state, tapBits_tms, TapState.ofNum_num]

/-- The word of a `TAPSTEP` row has the row's five bits; `tdi` is in it where the row has it as an operand (R92). -/
theorem encode_tapInstr (p : Params) (st : TapState) (tms tdi : Bool) :
    ∃ d, encode p (tapInstr st tms tdi) = .tapStep (tapBits st tms) d := by
  cases st <;> cases tms <;> exact ⟨_, rfl⟩

-- The two round trips.

/-- Settles O28: a word of `STEP` is its operands, one of an `IRWORD` row is in the row's class, and one of a `TAPSTEP` row is the row's five bits. -/
theorem decodeOfEncodeIsTheInstruction : Obligations.DecodeOfEncodeIsTheInstruction := by
  intro p i h
  cases i with
  | step tms tck tdi => rfl
  | bypass => exact decode_encode_toInstr (o := .bypass) h
  | idcode => exact decode_encode_toInstr (o := .idcode) h
  | extest => exact decode_encode_toInstr (o := .extest) h
  | sample => exact decode_encode_toInstr (o := .sample) h
  | unknown w => exact decode_encode_toInstr (o := .unknown w) h
  | _ => exact decode_tapStep_tapBits ..

/-- Settles O29: an opcode is the word of its class and a `TAPSTEP` word's five bits are those of its row. -/
theorem encodeOfDecodeIsTheWord : Obligations.EncodeOfDecodeIsTheWord := by
  intro p
  refine ⟨fun w => ⟨?_, ?_⟩, fun _ => rfl, fun bits tdi => ?_⟩
  · rw [decode, encode_toInstr, word_irOp]
  · rw [decode, wf_toInstr_iff, word_irOp]
  · have hrow := encode_tapInstr p (TapState.ofNum (bits.extractLsb' 1 4)) (bits.getLsbD 0) tdi
    rwa [tapBits_ofNum] at hrow

-- A word and its table number.

/-- `IRWORD`s are numbered in at least 16 bits, so in no length of another format. -/
theorem le_irWordBits (n : Nat) : 16 ≤ irWordBits n := Nat.le_max_left ..

/-- A number of the length of an `IRWORD` that fits `IR` is that `IRWORD`. -/
theorem frameWord_irWordBits {n w : Nat} (hw : w < 2 ^ n) : frameWord n (irWordBits n) w = .ok (.irWord (BitVec.ofNat n w)) := by
  have hlen := le_irWordBits n
  unfold frameWord
  split
  case h_4 => simp [hw]
  all_goals omega

/-- A byte below 64 is a `TAPSTEP` word with `tdi` at bit 5 (log 9). -/
theorem frameWord_tapStep (n : Nat) (bits : BitVec 5) (tdi : Bool) :
    frameWord n 8 (bits.toNat + 32 * tdi.toNat) = .ok (.tapStep bits tdi) := by
  have hlt := bits.isLt
  have hbits : BitVec.ofNat 5 (bits.toNat + 32 * tdi.toNat) = bits := by cases tdi <;> bv_omega
  have htdi : (bits.toNat + 32 * tdi.toNat).testBit 5 = tdi := by
    cases tdi <;> simp [Nat.testBit_eq_decide_div_mod_eq] <;> omega
  have hbyte : bits.toNat + 32 * tdi.toNat < 64 := by cases tdi <;> simp <;> omega
  simp [frameWord, hbyte, hbits, htdi]

/-- `frameWord` reads every word back from its table number (log 9). -/
theorem frameWord_tableNumber {n : Nat} (c : CodeWord n) : frameWord n c.tableNumber.1 c.tableNumber.2 = .ok c := by
  cases c with
  | pinSample q =>
    obtain ⟨tms, tck, tdi⟩ := q
    cases tms <;> cases tck <;> cases tdi <;> simp [frameWord, CodeWord.tableNumber, Nat.testBit_eq_decide_div_mod_eq]
  | tapStep bits tdi => exact frameWord_tapStep n bits tdi
  | irWord w => simpa [CodeWord.tableNumber] using frameWord_irWordBits w.isLt

/-- Settles O30: a table number is framed into its word, which O28 decodes. -/
theorem tableNumbersDecodeToTheirInstruction : Obligations.TableNumbersDecodeToTheirInstruction := by
  intro i h
  rw [decodeTableWord, frameWord_tableNumber]
  exact congrArg some (decodeOfEncodeIsTheInstruction _ i h)

/-- Settles O31: seven closed words, each framed and decoded by evaluation. -/
theorem wordsOfTheTableDecode : Obligations.WordsOfTheTableDecode :=
  ⟨by decide, by decide, by decide, by decide, by decide, by decide, by decide⟩

end Sys2Proof
end

section
/-! PROOFS. The family of 30_encoding.md, its stimulus: a `CLK` pair is one edge, so a run of pairs is a fold of edges; a shift state makes its register
a delay line; and an IR scan is four moves, the delay line of `IR`, and the commit. -/

namespace Sys2Proof
namespace Machine

-- `CLK` pairs.

/-- What a `CLK` pair does: the edge of (`state`, `tms`), with the clock remembered high (R56). -/
def clkEffect (c : Clk) (s : State) : State := tapEffect s.state c.tms c.tdi (s.rememberTck true)

@[simp] theorem clkEffect_params (c : Clk) (s : State) : (clkEffect c s).params = s.params := tapEffect_params ..

@[simp] theorem clkEffect_prevTck (c : Clk) (s : State) : (clkEffect c s).prevTck = true := tapEffect_prevTck ..

@[simp] theorem clkEffect_state (c : Clk) (s : State) : (clkEffect c s).state = nextState s.state c.tms := tapEffect_state ..

/-- The low sample of a pair is no edge, whatever `prev_tck` was (R65). -/
theorem sampleEffect_low (tms tdi : Bool) (s : State) : sampleEffect ⟨tms, false, tdi⟩ s = s.rememberTck false := by
  simp [sampleEffect, risingEdge]

/-- The high sample of a pair is an edge, since the low one came before it (R63 (b)). -/
theorem sampleEffect_high_after_low (c : Clk) (s : State) :
    sampleEffect ⟨c.tms, true, c.tdi⟩ (s.rememberTck false) = clkEffect c s := rfl

/-- Of a pair, the second sample returns the edge's `tdo` (R56). -/
theorem observe_clk (c : Clk) (s : State) : observe c.samples s = some ([s.tdo, (clkEffect c s).tdo], clkEffect c s) := by
  rw [Clk.samples, observe_cons, sampleEffect_low, observe_cons, sampleEffect_high_after_low]
  rfl

/-- Settles O41: the low sample arms the detector and the high one is the edge. -/
theorem aClkPairIsOneEdge : Obligations.AClkPairIsOneEdge := by
  intro c s
  refine ⟨clkEffect c s, exec_tapInstr_eq_tapEffect .., clkEffect_prevTck c s, ?_⟩
  rw [clock, observe_clk]
  rfl

-- Runs of `CLK` pairs.

/-- The state after a run of pairs. -/
def clockEnd : List Clk → State → State
  | [], s => s
  | c :: cs, s => clockEnd cs (clkEffect c s)

/-- What a run of pairs returns. -/
def clockOuts : List Clk → State → List Bool
  | [], _ => []
  | c :: cs, s => (clkEffect c s).tdo :: clockOuts cs (clkEffect c s)

/-- A run of pairs never stops. -/
theorem clock_eq (cs : List Clk) (s : State) : clock cs s = some (clockOuts cs s, clockEnd cs s) := by
  induction cs generalizing s with
  | nil => rfl
  | cons c cs ih =>
    rw [clock, observe_clk]
    simp only [ih]
    rfl

@[simp] theorem clockEnd_append (cs ds : List Clk) (s : State) : clockEnd (cs ++ ds) s = clockEnd ds (clockEnd cs s) := by
  induction cs generalizing s with
  | nil => rfl
  | cons c cs ih => exact ih _

@[simp] theorem clockOuts_append (cs ds : List Clk) (s : State) :
    clockOuts (cs ++ ds) s = clockOuts cs s ++ clockOuts ds (clockEnd cs s) := by
  induction cs generalizing s with
  | nil => rfl
  | cons c cs ih => exact congrArg (_ :: ·) (ih _)

@[simp] theorem length_clockOuts (cs : List Clk) (s : State) : (clockOuts cs s).length = cs.length := by
  induction cs generalizing s with
  | nil => rfl
  | cons c cs ih => exact congrArg (· + 1) (ih _)

@[simp] theorem clockEnd_params (cs : List Clk) (s : State) : (clockEnd cs s).params = s.params := by
  induction cs generalizing s with
  | nil => rfl
  | cons c cs ih => exact (ih _).trans (clkEffect_params c s)

-- Delay lines.

/-- The shift, bit by bit (R100): every bit moves down by one, and `tdi` lands on top. -/
theorem getLsbD_shiftReg {n : Nat} (r : Bits (n + 1)) (tdi : Bool) (k : Nat) :
    (shiftReg r tdi).2.getLsbD k = if k = n then tdi else r.getLsbD (k + 1) := by
  rcases Nat.lt_trichotomy k n with hk | rfl | hk
  · simp [shiftReg, hk, hk.ne, Nat.add_comm 1 k]
  · simp [shiftReg, Nat.add_comm 1 k]
  · simp [shiftReg, hk.ne', hk.not_ge, Nat.add_comm 1 k]

/-- The bit that leaves, then the register: what the register was, then `tdi` (R100). -/
theorem scanBits_shiftReg {n : Nat} (hn : 0 < n) (r : Bits n) (tdi : Bool) :
    (shiftReg r tdi).1 :: scanBits (shiftReg r tdi).2 = scanBits r ++ [tdi] := by
  obtain ⟨n, rfl⟩ := Nat.exists_eq_add_one_of_ne_zero hn.ne'
  have hlow : (List.range n).map (shiftReg r tdi).2.getLsbD = (List.range n).map fun k => r.getLsbD (k + 1) :=
    List.map_congr_left fun k hk => by
      rw [getLsbD_shiftReg, if_neg (List.mem_range.mp hk).ne]
  calc (shiftReg r tdi).1 :: scanBits (shiftReg r tdi).2
      = r.getLsbD 0 :: ((List.range n).map (shiftReg r tdi).2.getLsbD ++ [(shiftReg r tdi).2.getLsbD n]) := by
        simp [scanBits, List.range_succ, shiftReg]
    _ = (r.getLsbD 0 :: (List.range n).map fun k => r.getLsbD (k + 1)) ++ [tdi] := by
        rw [hlow, getLsbD_shiftReg, if_pos rfl]
        rfl
    _ = scanBits r ++ [tdi] := by
        simp [scanBits, List.range_succ_eq_map, Function.comp_def]

/-- Equal bits make equal numbers; the widths need not be the same by type, as those of `IR` in two states are not. -/
theorem toNat_eq_of_scanBits_eq {m n : Nat} {v : Bits m} {w : Bits n} (h : scanBits v = scanBits w) : v.toNat = w.toNat := by
  have hmn : m = n := by simpa using congrArg List.length h
  subst hmn
  have hbit : ∀ k < m, v.getLsbD k = w.getLsbD k := by simpa [scanBits] using h
  rw [BitVec.eq_of_getLsbD_eq hbit]

/-- Of the shift edges of a scan, all but the last stay in the shift state (R57). -/
theorem shiftEdges_concat (ds : List Bool) (d : Bool) :
    shiftEdges (ds ++ [d]) = (ds.map fun b => ⟨false, b⟩) ++ [⟨true, d⟩] := by
  induction ds with
  | nil => rfl
  | cons b ds ih => cases ds with
    | nil => rfl
    | cons c ds => exact congrArg (⟨false, b⟩ :: ·) ih

@[simp] theorem length_shiftEdges (ds : List Bool) : (shiftEdges ds).length = ds.length := by
  rcases List.eq_nil_or_concat' ds with rfl | ⟨ds, d, rfl⟩
  · rfl
  · simp [shiftEdges_concat]

/-- In the state `st` a register, seen as its bits, is a delay line: an edge with `tms` = 0 stays, and every edge moves one bit through. -/
structure IsDelayLine (st : TapState) (bits : State → List Bool) : Prop where
  stays : nextState st false = st
  moves : ∀ (c : Clk) (s : State), s.state = st → (clkEffect c s).tdo :: bits (clkEffect c s) = bits s ++ [c.tdi]

namespace IsDelayLine

variable {st : TapState} {bits : State → List Bool}

/-- Edges that stay in the shift state: the outputs and the final contents are the initial contents and the inputs (R33). -/
theorem clock_shift (h : IsDelayLine st bits) (ds : List Bool) {s : State} (hs : s.state = st) :
    clockOuts (ds.map fun d => ⟨false, d⟩) s ++ bits (clockEnd (ds.map fun d => ⟨false, d⟩) s) = bits s ++ ds ∧
      (clockEnd (ds.map fun d => ⟨false, d⟩) s).state = st := by
  induction ds generalizing s with
  | nil => exact ⟨(List.append_nil _).symm, hs⟩
  | cons d ds ih =>
    have hstay : (clkEffect ⟨false, d⟩ s).state = st := by rw [clkEffect_state, hs, h.stays]
    obtain ⟨hline, hend⟩ := ih hstay
    refine ⟨?_, hend⟩
    calc (clkEffect ⟨false, d⟩ s).tdo :: (clockOuts (ds.map fun d => ⟨false, d⟩) (clkEffect ⟨false, d⟩ s) ++
          bits (clockEnd (ds.map fun d => ⟨false, d⟩) (clkEffect ⟨false, d⟩ s)))
        = ((clkEffect ⟨false, d⟩ s).tdo :: bits (clkEffect ⟨false, d⟩ s)) ++ ds := congrArg (_ :: ·) hline
      _ = bits s ++ d :: ds := by rw [h.moves _ _ hs, List.append_assoc, List.singleton_append]

/-- The shift edges of a whole scan, the last of which leaves the shift state (R57). -/
theorem clock_shiftEdges (h : IsDelayLine st bits) {ds : List Bool} (hne : ds ≠ []) {s : State} (hs : s.state = st) :
    clockOuts (shiftEdges ds) s ++ bits (clockEnd (shiftEdges ds) s) = bits s ++ ds ∧
      (clockEnd (shiftEdges ds) s).state = nextState st true := by
  obtain ⟨ds, d, rfl⟩ := (List.eq_nil_or_concat' ds).resolve_left hne
  obtain ⟨hline, hend⟩ := h.clock_shift ds hs
  rw [shiftEdges_concat, clockOuts_append, clockEnd_append]
  generalize clockOuts (ds.map fun b => ⟨false, b⟩) s = outs at hline ⊢
  generalize clockEnd (ds.map fun b => ⟨false, b⟩) s = u at hline hend ⊢
  refine ⟨?_, (clkEffect_state ..).trans (by rw [hend])⟩
  calc outs ++ [(clkEffect ⟨true, d⟩ u).tdo] ++ bits (clkEffect ⟨true, d⟩ u)
      = outs ++ (bits u ++ [d]) := by rw [List.append_assoc, List.singleton_append, h.moves _ _ hend]
    _ = bits s ++ (ds ++ [d]) := by rw [← List.append_assoc, hline, List.append_assoc]

end IsDelayLine

/-- In `IrShift`, `IR` is a delay line (R102). -/
theorem isDelayLine_ir : IsDelayLine .irShift fun s => scanBits s.ir where
  stays := rfl
  moves c s hs := by
    rw [clkEffect, hs]
    exact scanBits_shiftReg s.params.widths_pos.1 s.ir c.tdi

/-- The shift edges of an IR scan read the old `IR` and leave the operand in it (R57). -/
theorem clock_shiftEdges_ir {s : State} {n : Nat} (v : Bits n) (hn : s.params.irWidth = n) (hs : s.state = .irShift) :
    clockOuts (shiftEdges (scanBits v)) s = scanBits s.ir ∧
      (clockEnd (shiftEdges (scanBits v)) s).irNum = v.toNat ∧ (clockEnd (shiftEdges (scanBits v)) s).state = .irExit1 := by
  have hne : scanBits v ≠ [] := List.ne_nil_of_length_pos (by rw [length_scanBits, ← hn]; exact s.params.widths_pos.1)
  obtain ⟨hline, hexit⟩ := isDelayLine_ir.clock_shiftEdges hne hs
  obtain ⟨houts, hir⟩ := List.append_inj hline (by simp [hn])
  exact ⟨houts, toNat_eq_of_scanBits_eq hir, hexit⟩

-- The IR scan.

/-- The four edges of an IR scan before its shift edges (R57). -/
def irScanEnter : List Clk := [⟨true, false⟩, ⟨true, false⟩, ⟨false, false⟩, ⟨false, false⟩]

/-- The two edges of an IR scan after its shift edges: the commit, and back to `Idle` (R57). -/
def irScanLeave : List Clk := [⟨true, false⟩, ⟨false, false⟩]

theorem irScan_eq {n : Nat} (v : Bits n) : irScan v = irScanEnter ++ shiftEdges (scanBits v) ++ irScanLeave := rfl

/-- On the way to `IrShift` no register changes (R75, R76, R82, R83, R84, R89). -/
theorem clockEnd_irScanEnter {s : State} (h : s.state = .idle ∨ s.state = .drUpdate ∨ s.state = .irUpdate) :
    clockEnd irScanEnter s = (s.rememberTck true).goto .irShift := by
  obtain ⟨p, st, ir, reg, prevTck, tdo, inputs⟩ := s
  rcases h with rfl | rfl | rfl <;> rfl

/-- From `IrExit1`, the commit and the way to `Idle` (R86, R89). -/
theorem clockEnd_irScanLeave {s : State} (h : s.state = .irExit1) :
    clockEnd irScanLeave s = ((s.rememberTck true).select (decodeEntry s.params s.ir)).goto .idle := by
  obtain ⟨p, st, ir, reg, prevTck, tdo, inputs⟩ := s
  obtain rfl : st = .irExit1 := h
  rfl

/-- The decode of a committed value, whose number is all that it reads (R47). -/
theorem decodeEntry_eq_of_irNum {s : State} {p : Params} {v : Bits p.irWidth} (hp : s.params = p) (hv : s.irNum = v.toNat) :
    decodeEntry s.params s.ir = decodeEntry p v := by
  rw [← decodeNum_toNat, ← decodeNum_toNat, ← hv, ← hp]
  rfl

/-- Settles O35: the moves to `IrShift` keep `IR`, the delay line of `IR` exchanges it for `v`, and the commit decodes `v`. -/
theorem irScanCommitsItsOperand : Obligations.IrScanCommitsItsOperand := by
  intro s v hstart
  have henter := clockEnd_irScanEnter hstart
  obtain ⟨houts, hir, hexit⟩ := clock_shiftEdges_ir (s := clockEnd irScanEnter s) v (by simp) (by simp [henter])
  have hread : clockOuts (shiftEdges (scanBits v)) (clockEnd irScanEnter s) = scanBits s.ir :=
    houts.trans (by rw [henter]; rfl)
  refine ⟨_, _, clock_eq _ s, ?_, ?_, ?_⟩
  · simp [irScan_eq, irScanEnter, irScanLeave]
  · rw [irScan_eq, clockOuts_append, clockOuts_append, hread, List.append_assoc,
      List.drop_left' (by simp [irScanEnter]), List.take_left' (by simp)]
  · rw [irScan_eq, clockEnd_append, clockEnd_append, clockEnd_irScanLeave hexit,
      decodeEntry_eq_of_irNum (p := s.params) (v := v) (by simp) hir]
    simp [hir]

end Machine
end Sys2Proof
end

section
/-! PROOFS. The family of 40_edge_detector.md: the edge test as a condition on the two levels, and the effect of a sample on either side of it. -/

namespace Sys2Proof
namespace Machine

/-- The edge test on levels: low before, high now (R60). -/
theorem risingEdge_iff (prevTck tck : Bool) : risingEdge prevTck tck = true ↔ prevTck = false ∧ tck = true := by
  simp [risingEdge]

/-- A sample that is an edge has the effect of the row of (`state`, `tms`), with the clock remembered high (R62). -/
theorem sampleEffect_of_edge {q : PinSample} {s : State} (h : s.prevTck = false ∧ q.tck = true) :
    sampleEffect q s = tapEffect s.state q.tms q.tdi (s.rememberTck true) := by
  rw [sampleEffect, if_pos ((risingEdge_iff ..).mpr h), h.2]

/-- A sample that is no edge has its level remembered and does nothing else (R61, R62). -/
theorem sampleEffect_of_not_edge {q : PinSample} {s : State} (h : ¬(s.prevTck = false ∧ q.tck = true)) :
    sampleEffect q s = s.rememberTck q.tck :=
  if_neg fun hedge => h ((risingEdge_iff ..).mp hedge)

/-- Settles O2: the edge test is low then high, and every sample's effect remembers its level. -/
theorem edgeIsLowThenHighAndTheLevelIsRemembered : Obligations.EdgeIsLowThenHighAndTheLevelIsRemembered :=
  fun tms tck tdi s =>
    ⟨risingEdge_iff s.prevTck tck, _, exec_step_eq_sampleEffect tms tck tdi s, sampleEffect_prevTck ..⟩

/-- Settles O3: `STEP` answers the sample's effect, which is the remembered level alone, or that of the row which the operation answers too. -/
theorem nonEdgeIsANoOpAndAnEdgeIsOneOperation : Obligations.NonEdgeIsANoOpAndAnEdgeIsOneOperation := by
  intro tms tck tdi s
  rw [exec_step_eq_sampleEffect]
  refine ⟨fun hkept => ?_, fun hedge => ?_⟩
  · rw [sampleEffect_of_not_edge hkept]
    rfl
  · rw [sampleEffect_of_edge hedge, exec_tapInstr_eq_tapEffect]
    rfl

/-- Settles O43: a low sample is no edge, and the level it remembers overwrites the old one. -/
theorem aLowSampleForgetsThePreviousLevel : Obligations.ALowSampleForgetsThePreviousLevel := by
  intro tms tdi b s
  rw [exec_step_eq_sampleEffect, sampleEffect_low]
  rfl

end Machine
end Sys2Proof
end

section
/-! PROOFS. The family of 41_tap_fsm.md. The rows of section 3 as one pair of equations, decode and effect; the whole-step pseudocode row by row, on
the six elements; and the transition table, from which the columns, the way to `Reset` and the independence of `tdi` are read. -/

namespace Sys2Proof
namespace Machine

-- The rows.

/-- A row of section 3: its five bits denote it (R51), and performed in any state (log 7) it has its effect (R20). -/
theorem tapRow (p : Params) (st : TapState) (tms tdi : Bool) (s : State) :
    decode p (.tapStep (tapBits st tms) tdi) = tapInstr st tms tdi ∧
      exec (tapInstr st tms tdi) s = .next (tapEffect st tms tdi s) :=
  ⟨decode_tapStep_tapBits p st tms tdi, exec_tapInstr_eq_tapEffect st tms tdi s⟩

/-- Settles O13: a row answers its effect, whose state is the table's. -/
theorem everyOperationMovesAsTheTransitionTable : Obligations.EveryOperationMovesAsTheTransitionTable :=
  fun st tms tdi s =>
    ⟨tapEffect st tms tdi s, exec_tapInstr_eq_tapEffect st tms tdi s, tapEffect_state .., tapEffect_prevTck ..,
      tapEffect_params .., tapEffect_inputs ..⟩

/-- Settles O7: the effect of `Reset.0` is the forced load, that of `Reset.1` a move. -/
theorem leavingResetForcesIdcode : Obligations.LeavingResetForcesIdcode := fun p tdi s =>
  ⟨tapRow p .reset false tdi s, tapRow p .reset true tdi s⟩

/-- Settles O8: the effect of each of these rows is a move. -/
theorem idleAndDrRowsOnlyMove : Obligations.IdleAndDrRowsOnlyMove := fun p tdi s =>
  ⟨tapRow p .idle false tdi s, tapRow p .idle true tdi s,
    tapRow p .drScan false tdi s, tapRow p .drScan true tdi s,
    tapRow p .drCapture false tdi s, tapRow p .drCapture true tdi s,
    tapRow p .drExit1 false tdi s, tapRow p .drExit1 true tdi s,
    tapRow p .drPause false tdi s, tapRow p .drPause true tdi s,
    tapRow p .drExit2 false tdi s, tapRow p .drExit2 true tdi s,
    tapRow p .drUpdate false tdi s, tapRow p .drUpdate true tdi s⟩

/-- Settles O9: the effect of each of these rows is a move. -/
theorem irRowsThatOnlyMove : Obligations.IrRowsThatOnlyMove := fun p tdi s =>
  ⟨tapRow p .irScan false tdi s, tapRow p .irScan true tdi s,
    tapRow p .irCapture false tdi s, tapRow p .irCapture true tdi s,
    tapRow p .irPause false tdi s, tapRow p .irPause true tdi s,
    tapRow p .irUpdate false tdi s, tapRow p .irUpdate true tdi s⟩

/-- Settles O11: the effect of both rows is the shift of `IR`, then a move. -/
theorem irShiftRowsShiftTheInstructionRegister : Obligations.IrShiftRowsShiftTheInstructionRegister := fun p tdi s =>
  ⟨tapRow p .irShift false tdi s, tapRow p .irShift true tdi s⟩

-- The shared operations on the six elements (R10).

@[simp] theorem State.elements_goto (s : State) (n : TapState) : (s.goto n).elements = { s.elements with state := n } := rfl

@[simp] theorem State.elements_select (s : State) (e : Entry) :
    (s.select e).elements = { s.elements with sel := e, dr := e.reload s.params } := by
  simp [State.elements]

/-- The commit as R72 writes it on numbers (R115, R117). -/
theorem State.elements_commit (s : State) :
    (s.select (decodeEntry s.params s.ir)).elements =
      { s.elements with sel := decodeNum s.params s.irNum, dr := (decodeNum s.params s.irNum).reload s.params } := by
  rw [State.elements_select, ← decodeNum_toNat]
  rfl

/-- The DR shift as R72 writes it on numbers (R101). -/
@[simp] theorem State.elements_shiftDr (s : State) (tdi : Bool) :
    (s.shiftDr tdi).elements =
      { s.elements with tdo := s.dr.testBit 0, dr := shiftInto s.dr tdi (s.sel.len s.params) } := by
  have hout : (s.shiftDr tdi).tdo = s.dr.testBit 0 := s.reg.shift_out tdi
  have hnum : (s.shiftDr tdi).dr = shiftInto s.dr tdi (s.sel.len s.params) := s.reg.shift_num tdi
  rw [State.elements, hout, hnum, State.shiftDr_sel]
  rfl

/-- The IR shift as R72 writes it on numbers (R102). -/
@[simp] theorem State.elements_shiftIr (s : State) (tdi : Bool) :
    (s.shiftIr tdi).elements =
      { s.elements with tdo := s.irNum.testBit 0, ir := shiftInto s.irNum tdi s.params.irWidth } := by
  have hnum : (s.shiftIr tdi).irNum = shiftInto s.irNum tdi s.params.irWidth :=
    shiftReg_toNat_shiftInto s.params.widths_pos.1 s.ir tdi
  rw [State.elements, hnum]
  rfl

/-- Settles O10: both rows shift the selected register at its own length, and differ in the state alone. -/
theorem drShiftRowsShiftTheSelectedRegister : Obligations.DrShiftRowsShiftTheSelectedRegister := by
  intro p tdi s
  obtain ⟨hdecode0, hexec0⟩ := tapRow p .drShift false tdi s
  obtain ⟨hdecode1, hexec1⟩ := tapRow p .drShift true tdi s
  refine ⟨hdecode0, hdecode1, _, _, hexec0, hexec1, ?_, rfl, rfl, rfl⟩
  exact (State.elements_goto ..).trans (by rw [State.elements_shiftDr]; rfl)

/-- Settles O12: the effect of the rows with `tms` = 1 is the commit, then the move to `IrUpdate`. -/
theorem irExitRowsCommitOnTheWayToIrUpdate : Obligations.IrExitRowsCommitOnTheWayToIrUpdate := by
  intro p tdi s
  obtain ⟨hdecode1, hexec1⟩ := tapRow p .irExit1 true tdi s
  obtain ⟨hdecode2, hexec2⟩ := tapRow p .irExit2 true tdi s
  refine ⟨tapRow p .irExit1 false tdi s, tapRow p .irExit2 false tdi s, hdecode1, hdecode2, _, hexec1, hexec2, ?_, rfl, rfl⟩
  exact (State.elements_goto ..).trans (by rw [State.elements_select])

-- The whole step.

/-- R72 where the sample is no edge. -/
theorem wholeStep_of_not_edge {tck : Bool} {e : Elements} (h : ¬(e.prevTck = false ∧ tck = true)) (p : Params) (tms tdi : Bool) :
    wholeStep p tms tck tdi e = { e with prevTck := tck } :=
  if_pos h

/-- R72 on an edge is the effect of the row of (`state`, `tms`): of its four assignments to registers, each row performs at most one. -/
theorem elements_tapEffect_eq_wholeStep {s : State} (hprev : s.prevTck = false) (tms tdi : Bool) :
    (tapEffect s.state tms tdi (s.rememberTck true)).elements = wholeStep s.params tms true tdi s.elements := by
  obtain ⟨p, st, ir, reg, prevTck, tdo, inputs⟩ := s
  obtain rfl : prevTck = false := hprev
  cases st with
  | drShift =>
    refine (State.elements_goto ..).trans ?_
    rw [State.elements_shiftDr]
    cases tms <;> rfl
  | irShift =>
    refine (State.elements_goto ..).trans ?_
    rw [State.elements_shiftIr]
    cases tms <;> rfl
  | irExit1 | irExit2 =>
    cases tms with
    | false => rfl
    | true =>
      refine (State.elements_goto ..).trans ?_
      rw [State.elements_commit (State.rememberTck true _)]
      rfl
  | _ => cases tms <;> rfl

/-- Settles O6: `STEP` answers the sample's effect, which off an edge is the remembered level and on an edge that of the row. -/
theorem stepRefinesTheWholeStepPseudocode : Obligations.StepRefinesTheWholeStepPseudocode := by
  intro tms tck tdi s
  refine ⟨_, exec_step_eq_sampleEffect tms tck tdi s, ?_, sampleEffect_params _ s, sampleEffect_inputs _ s⟩
  by_cases hedge : s.prevTck = false ∧ tck = true
  · rw [sampleEffect_of_edge hedge, hedge.2]
    exact elements_tapEffect_eq_wholeStep hedge.1 tms tdi
  · rw [sampleEffect_of_not_edge hedge, wholeStep_of_not_edge hedge]
    rfl

/-- Settles O4: fetch and decode are those of `step`; an edge is one operation (O3), whose word is its row's; a commit is `exec` of the
class that `IR` decodes to. -/
theorem aStepRunsTheDecodedInstruction : Obligations.AStepRunsTheDecodedInstruction := by
  have hcommit (s : State) : commitIr (s.goto .irUpdate) = exec (decode s.params (.irWord s.ir)) (s.goto .irUpdate) :=
    (exec_irOp (irOp s.params s.ir) _).symm
  refine ⟨fun q rest s hsome => ?_, fun tms tdi s hprev => ?_, fun s => ⟨hcommit s, hcommit s⟩, fun s hnone => ?_⟩
  · rcases step_cases s with ⟨hnone, -⟩ | ⟨q', rest', hsome', hstep⟩
    · cases hsome.symm.trans hnone
    · cases hsome.symm.trans hsome'
      exact hstep
  · rw [decode_tapStep_tapBits]
    exact (nonEdgeIsANoOpAndAnEdgeIsOneOperation tms true tdi s).2 ⟨hprev, rfl⟩
  · rcases step_cases s with ⟨-, hstep⟩ | ⟨q, rest, hsome, -⟩
    · exact hstep
    · cases hnone.symm.trans hsome

-- How the columns are entered and left.

/-- The DR column of the table has one way in and one state to leave from (R91 (c)). -/
theorem nextState_drColumn (st : TapState) (tms : Bool) :
    (inDrColumn (nextState st tms) = true → inDrColumn st = false → st = .drScan ∧ nextState st tms = .drCapture) ∧
      (inDrColumn st = true → inDrColumn (nextState st tms) = false → st = .drUpdate) := by
  cases st <;> cases tms <;> decide

/-- The IR column likewise (R91 (c)). -/
theorem nextState_irColumn (st : TapState) (tms : Bool) :
    (inIrColumn (nextState st tms) = true → inIrColumn st = false → st = .irScan ∧ nextState st tms = .irCapture) ∧
      (inIrColumn st = true → inIrColumn (nextState st tms) = false → st = .irUpdate) := by
  cases st <;> cases tms <;> decide

/-- The states of the table from which the shift states, `IrUpdate` and `Reset` are entered (R91 (d) to (f)). -/
theorem nextState_enteredFrom {st : TapState} {tms : Bool} (hne : nextState st tms ≠ st) :
    (nextState st tms = .drShift → st = .drCapture ∨ st = .drExit2) ∧
      (nextState st tms = .irShift → st = .irCapture ∨ st = .irExit2) ∧
      (nextState st tms = .irUpdate → st = .irExit1 ∨ st = .irExit2) ∧
      (nextState st tms = .reset → st = .irScan) := by
  revert hne
  cases st <;> cases tms <;> decide

/-- Settles O23: a step that changes the state moves as the table says (O22). -/
theorem columnsAreEnteredAndLeftOnlyAtTheirEnds : Obligations.ColumnsAreEnteredAndLeftOnlyAtTheirEnds := by
  intro s t h hne
  obtain ⟨q, _, -, -, -, hnext⟩ := theStateMovesOnlyOnAnEdge s t h hne
  rw [hnext] at hne ⊢
  obtain ⟨hdrIn, hdrOut⟩ := nextState_drColumn s.state q.tms
  obtain ⟨hirIn, hirOut⟩ := nextState_irColumn s.state q.tms
  exact ⟨hdrIn, hdrOut, hirIn, hirOut, nextState_enteredFrom hne⟩

-- The way to `Reset`.

/-- An edge with `tms` = 1 comes one nearer to `Reset`, and stays there (R90). -/
theorem edgesToReset_nextState_true (st : TapState) : edgesToReset (nextState st true) = edgesToReset st - 1 := by
  cases st <;> rfl

theorem edgesToReset_eq_zero_iff (st : TapState) : edgesToReset st = 0 ↔ st = .reset := by
  cases st <;> decide

theorem edgesToReset_le_five (st : TapState) : edgesToReset st ≤ 5 := by
  cases st <;> decide

/-- A run of edges with `tms` = 1 comes nearer by its length. -/
theorem edgesToReset_clockEnd (ds : List Bool) (s : State) :
    edgesToReset (clockEnd (ds.map fun d => ⟨true, d⟩) s).state = edgesToReset s.state - ds.length := by
  induction ds generalizing s with
  | nil => rfl
  | cons d ds ih =>
    calc edgesToReset (clockEnd (ds.map fun d => ⟨true, d⟩) (clkEffect ⟨true, d⟩ s)).state
        = edgesToReset s.state - 1 - ds.length := by rw [ih, clkEffect_state, edgesToReset_nextState_true]
      _ = edgesToReset s.state - (ds.length + 1) := by omega

/-- Settles O40: the state is `Reset` when no edge is left of the number that R90 gives. -/
theorem resetIsTheAttractorOfTmsHigh : Obligations.ResetIsTheAttractorOfTmsHigh := by
  intro ds s
  refine ⟨_, _, clock_eq _ s, ?_, edgesToReset_le_five s.state⟩
  rw [← edgesToReset_eq_zero_iff, edgesToReset_clockEnd, Nat.sub_eq_zero_iff_le]

-- What the TAP state depends on.

/-- One sample on the TAP state and `prev_tck` alone, from the levels `tms` and `tck` alone (R60, R70). -/
def levelMove (x : TapState × Bool) (levels : Bool × Bool) : TapState × Bool :=
  (if risingEdge x.2 levels.2 then nextState x.1 levels.1 else x.1, levels.2)

theorem sampleEffect_levelMove (q : PinSample) (s : State) :
    ((sampleEffect q s).state, (sampleEffect q s).prevTck) = levelMove (s.state, s.prevTck) (q.tms, q.tck) := by
  rw [sampleEffect_state, sampleEffect_prevTck, levelMove]

/-- The TAP state and `prev_tck` after a run are a function of those before it and of the levels presented (R92). -/
theorem observe_levelMove {qs : List PinSample} {s t : State} {os : List Bool} (h : observe qs s = some (os, t)) :
    (t.state, t.prevTck) = (qs.map fun q => (q.tms, q.tck)).foldl levelMove (s.state, s.prevTck) := by
  induction qs generalizing s os with
  | nil =>
    cases h
    rfl
  | cons q qs ih =>
    rw [observe_cons, Option.map_eq_some_iff] at h
    obtain ⟨⟨us, u⟩, hu, hut⟩ := h
    cases hut
    rw [ih hu, sampleEffect_levelMove]
    rfl

/-- Settles O44: both runs are the same function of the same arguments. -/
theorem tdiAndRegistersNeverInfluenceTheState : Obligations.TdiAndRegistersNeverInfluenceTheState := by
  intro qs qs' s s' os os' t t' hlevels hstate hprev h h'
  have hend : (t.state, t.prevTck) = (t'.state, t'.prevTck) := by
    rw [observe_levelMove h, observe_levelMove h', hlevels, hstate, hprev]
  exact Prod.ext_iff.mp hend

end Machine
end Sys2Proof
end

section
/-! PROOFS. The family of 42_shift.md. In `DrShift` the selected data register is a delay line, as `IR` is in `IrShift`; a DR scan from `Idle` is three
moves, that delay line, and two moves; so what a scan reads is what the forced load or the commit before it left in `DR`. -/

namespace Sys2Proof
namespace Machine

/-- Settles O32: the bit that leaves is the old bit 0 by definition, and every bit of the new register is given by `getLsbD_shiftReg`. -/
theorem shiftMovesEveryBitDownByOne : Obligations.ShiftMovesEveryBitDownByOne := by
  refine fun n r tdi => ⟨rfl, fun k hk => ?_, ?_⟩
  · rw [getLsbD_shiftReg, if_neg hk.ne]
  · rw [getLsbD_shiftReg, if_pos rfl]

-- The bits of `DR`.

/-- The bits of `DR` are those of its number, as many as the selected length. -/
theorem State.drBits_eq_scanBits (s : State) : s.drBits = scanBits (BitVec.ofNat s.drLen s.dr) := by
  obtain ⟨p, st, ir, reg, prevTck, tdo, inputs⟩ := s
  cases reg <;> exact congrArg scanBits ((BitVec.ofNat_toNat ..).trans (BitVec.setWidth_eq _)).symm

@[simp] theorem State.length_drBits (s : State) : s.drBits.length = s.drLen := by
  rw [State.drBits_eq_scanBits, length_scanBits]

@[simp] theorem State.rememberTck_drBits (s : State) (tck : Bool) : (s.rememberTck tck).drBits = s.drBits := by
  simp [State.drBits_eq_scanBits, State.drLen]

@[simp] theorem State.goto_drBits (s : State) (n : TapState) : (s.goto n).drBits = s.drBits := by
  simp [State.drBits_eq_scanBits, State.drLen]

/-- The number in `DR` is that of its bits. -/
theorem State.dr_eq_toNat_of_drBits {s : State} {n : Nat} {v : Bits n} (h : s.drBits = scanBits v) : s.dr = v.toNat := by
  have hlt : s.dr < 2 ^ s.drLen := s.reg.num_lt
  rw [← toNat_eq_of_scanBits_eq (s.drBits_eq_scanBits.symm.trans h), BitVec.toNat_ofNat, Nat.mod_eq_of_lt hlt]

-- Scans in a shift state.

/-- What every edge in the shift state keeps, a scan that stays there keeps. -/
theorem IsDelayLine.clockEnd_shift_keeps {α : Type} {st : TapState} {bits : State → List Bool} {f : State → α}
    (h : IsDelayLine st bits) (hf : ∀ (c : Clk) (s : State), s.state = st → f (clkEffect c s) = f s) (ds : List Bool)
    {s : State} (hs : s.state = st) : f (clockEnd (ds.map fun d => ⟨false, d⟩) s) = f s := by
  induction ds generalizing s with
  | nil => rfl
  | cons d ds ih =>
    have hstay : (clkEffect ⟨false, d⟩ s).state = st := by rw [clkEffect_state, hs, h.stays]
    exact (ih hstay).trans (hf _ _ hs)

/-- What every edge in the shift state keeps, the shift edges of a whole scan keep. -/
theorem IsDelayLine.clockEnd_shiftEdges_keeps {α : Type} {st : TapState} {bits : State → List Bool} {f : State → α}
    (h : IsDelayLine st bits) (hf : ∀ (c : Clk) (s : State), s.state = st → f (clkEffect c s) = f s) (ds : List Bool)
    {s : State} (hs : s.state = st) : f (clockEnd (shiftEdges ds) s) = f s := by
  rcases List.eq_nil_or_concat' ds with rfl | ⟨ds, d, rfl⟩
  · rfl
  · rw [shiftEdges_concat, clockEnd_append]
    exact (hf _ _ (h.clock_shift ds hs).2).trans (h.clockEnd_shift_keeps hf ds hs)

/-- An edge in `DrShift` shifts the selected register and moves (R78). -/
theorem clkEffect_drShift {s : State} (hs : s.state = .drShift) (c : Clk) :
    clkEffect c s = ((s.rememberTck true).shiftDr c.tdi).goto (nextState .drShift c.tms) := by
  rw [clkEffect, hs]
  rfl

/-- An edge in `IrShift` shifts `IR` and moves (R85). -/
theorem clkEffect_irShift {s : State} (hs : s.state = .irShift) (c : Clk) :
    clkEffect c s = ((s.rememberTck true).shiftIr c.tdi).goto (nextState .irShift c.tms) := by
  rw [clkEffect, hs]
  rfl

/-- In `DrShift`, the selected data register is a delay line, whichever it is (R101). -/
theorem isDelayLine_dr : IsDelayLine .drShift State.drBits where
  stays := rfl
  moves c s hs := by
    rw [clkEffect_drShift hs]
    obtain ⟨p, st, ir, reg, prevTck, tdo, inputs⟩ := s
    obtain ⟨_, hBypass, hIdcode, hBsr, hUnknown⟩ := p.widths_pos
    cases reg <;> exact scanBits_shiftReg (by assumption) _ c.tdi

/-- An edge in `DrShift` keeps `sel` (R22 (a)). -/
theorem clkEffect_sel_of_drShift (c : Clk) (s : State) (hs : s.state = .drShift) : (clkEffect c s).sel = s.sel := by
  simp [clkEffect_drShift hs]

/-- An edge in `DrShift` keeps `IR` (R78). -/
theorem clkEffect_irNum_of_drShift (c : Clk) (s : State) (hs : s.state = .drShift) : (clkEffect c s).irNum = s.irNum := by
  simp [clkEffect_drShift hs]

/-- An edge in `IrShift` keeps `sel` (R42). -/
theorem clkEffect_sel_of_irShift (c : Clk) (s : State) (hs : s.state = .irShift) : (clkEffect c s).sel = s.sel := by
  simp [clkEffect_irShift hs]

/-- An edge in `IrShift` keeps `DR` (R42). -/
theorem clkEffect_dr_of_irShift (c : Clk) (s : State) (hs : s.state = .irShift) : (clkEffect c s).dr = s.dr := by
  simp [clkEffect_irShift hs]

/-- Settles O33: in `DrShift`, `DR` is a delay line, and no edge writes `sel` or `IR`. -/
theorem aDrScanIsADelayLineOfTheSelectedLength : Obligations.ADrScanIsADelayLineOfTheSelectedLength := by
  intro ds s hs
  obtain ⟨hline, hend⟩ := isDelayLine_dr.clock_shift ds hs
  exact ⟨_, _, clock_eq _ s, by simp, hline, s.length_drBits, hend,
    isDelayLine_dr.clockEnd_shift_keeps (f := State.sel) clkEffect_sel_of_drShift ds hs,
    isDelayLine_dr.clockEnd_shift_keeps (f := State.irNum) clkEffect_irNum_of_drShift ds hs, clockEnd_params _ s⟩

/-- Settles O34: in `IrShift`, `IR` is a delay line, and no edge writes `sel` or `DR`. -/
theorem anIrScanIsADelayLineOfSixteenBits : Obligations.AnIrScanIsADelayLineOfSixteenBits := by
  intro ds s hs
  obtain ⟨hline, hend⟩ := isDelayLine_ir.clock_shift ds hs
  have hsixteen : s.params.Normative → (scanBits s.ir).length = 16 := fun ⟨⟨hIr, _⟩, _⟩ => (length_scanBits s.ir).trans hIr
  exact ⟨_, _, clock_eq _ s, by simp, hline, length_scanBits s.ir, hsixteen, hend,
    isDelayLine_ir.clockEnd_shift_keeps (f := State.sel) clkEffect_sel_of_irShift ds hs,
    isDelayLine_ir.clockEnd_shift_keeps (f := State.dr) clkEffect_dr_of_irShift ds hs, clockEnd_params _ s⟩

-- The DR scan.

/-- The three edges of a DR scan before its shift edges (R57). -/
def drScanEnter : List Clk := [⟨true, false⟩, ⟨false, false⟩, ⟨false, false⟩]

/-- The two edges of a DR scan after its shift edges (R57). -/
def drScanLeave : List Clk := [⟨true, false⟩, ⟨false, false⟩]

theorem drScan_eq {n : Nat} (v : Bits n) : drScan v = drScanEnter ++ shiftEdges (scanBits v) ++ drScanLeave := rfl

/-- On the way to `DrShift` no register changes (R75, R76, R77). -/
theorem clockEnd_drScanEnter {s : State} (h : s.state = .idle) :
    clockEnd drScanEnter s = (s.rememberTck true).goto .drShift := by
  obtain ⟨p, st, ir, reg, prevTck, tdo, inputs⟩ := s
  obtain rfl : st = .idle := h
  rfl

/-- From `DrExit1`, on the way to `Idle` no register changes (R79, R82). -/
theorem clockEnd_drScanLeave {s : State} (h : s.state = .drExit1) :
    clockEnd drScanLeave s = (s.rememberTck true).goto .idle := by
  obtain ⟨p, st, ir, reg, prevTck, tdo, inputs⟩ := s
  obtain rfl : st = .drExit1 := h
  rfl

/-- A DR scan of any length from `Idle`: of the initial contents followed by the operand, the shift edges return the first bits, and what remains is
the final contents (R57, R106). The selection is kept. -/
theorem clock_drScan {n : Nat} (hn : 0 < n) (v : Bits n) {s : State} (hs : s.state = .idle) :
    ((clockOuts (drScan v) s).drop 3).take n = (s.drBits ++ scanBits v).take n ∧
      (clockEnd (drScan v) s).drBits = (s.drBits ++ scanBits v).drop n ∧
      (clockEnd (drScan v) s).state = .idle ∧ (clockEnd (drScan v) s).sel = s.sel := by
  have hne : scanBits v ≠ [] := List.ne_nil_of_length_pos (by simpa using hn)
  have henter := clockEnd_drScanEnter hs
  have hshift : (clockEnd drScanEnter s).state = .drShift := by simp [henter]
  obtain ⟨hline, hexit⟩ := isDelayLine_dr.clock_shiftEdges hne hshift
  have hkeep := isDelayLine_dr.clockEnd_shiftEdges_keeps (f := State.sel) clkEffect_sel_of_drShift (scanBits v) hshift
  have hbits : s.drBits = (clockEnd drScanEnter s).drBits := by simp [henter]
  have hsel : (clockEnd drScanEnter s).sel = s.sel := by simp [henter]
  have hlen : (clockOuts (shiftEdges (scanBits v)) (clockEnd drScanEnter s)).length = n := by simp
  have hend : clockEnd (drScan v) s =
      ((clockEnd (shiftEdges (scanBits v)) (clockEnd drScanEnter s)).rememberTck true).goto .idle := by
    rw [drScan_eq, clockEnd_append, clockEnd_append, clockEnd_drScanLeave hexit]
  rw [hend, hbits, ← hline]
  refine ⟨?_, ?_, rfl, hkeep.trans hsel⟩
  · rw [drScan_eq, clockOuts_append, clockOuts_append, List.append_assoc, List.drop_left' (by simp [drScanEnter]),
      List.take_left' hlen, List.take_left' hlen]
  · simp [List.drop_left' hlen]

/-- Leaving `Reset` is the forced load (R74). -/
theorem clockEnd_rti {s : State} (h : s.state = .reset) : clockEnd rti s = (s.rememberTck true).forceIdcode.goto .idle := by
  obtain ⟨p, st, ir, reg, prevTck, tdo, inputs⟩ := s
  obtain rfl : st = .reset := h
  rfl

/-- Settles O36: the forced load leaves `DEVICE_ID` in `DR`, and a scan of the register's own length exchanges it for the operand. -/
theorem leavingResetThenAScanReadsTheDeviceId : Obligations.LeavingResetThenAScanReadsTheDeviceId := by
  intro s hs
  obtain ⟨-, -, hpos, -, -⟩ := s.params.widths_pos
  have hrti := clockEnd_rti hs
  have hdevice : (clockEnd rti s).drBits = scanBits s.params.deviceId := by rw [hrti]; rfl
  have hidle : (clockEnd rti s).state = .idle := by rw [hrti]; rfl
  have hidcode : (clockEnd rti s).sel = .idcode := by rw [hrti]; rfl
  obtain ⟨houts, hbits, hend, hsel⟩ := clock_drScan hpos (BitVec.allOnes s.params.lenIdcode) hidle
  rw [hdevice, List.take_left' (length_scanBits _)] at houts
  rw [hdevice, List.drop_left' (length_scanBits _)] at hbits
  refine ⟨_, _, clock_eq _ s, ?_, ?_⟩
  · rw [clockOuts_append]
    exact houts
  · rw [clockEnd_append]
    exact ⟨hend, hsel.trans hidcode, (State.dr_eq_toNat_of_drBits hbits).trans BitVec.toNat_allOnes⟩

/-- After an IR scan of `OPC_BYPASS` from `Idle`, the `Bypass` register is selected and holds its reload value (R117, R119). -/
theorem clockEnd_irScan_opcBypass {s : State} (hs : s.state = .idle) :
    (clockEnd (irScan s.params.opcBypass) s).state = .idle ∧ (clockEnd (irScan s.params.opcBypass) s).sel = .bypass ∧
      (clockEnd (irScan s.params.opcBypass) s).drBits = scanBits s.params.bypassReload := by
  obtain ⟨outs, t, ht, -, -, hidle, -, hsel, hdr, hparams⟩ := irScanCommitsItsOperand s s.params.opcBypass (.inl hs)
  cases (clock_eq _ s).symm.trans ht
  rw [decodeEntry_opcBypass] at hsel hdr
  refine ⟨hidle, hsel, ?_⟩
  rw [State.drBits_eq_scanBits, State.drLen, hsel, hdr, hparams]
  simp [Entry.len, Entry.reload]

/-- Settles O37: the commit leaves the reload value in `Bypass`, a delay line through which the scan's input follows it. -/
theorem bypassDelaysEveryScanByOneEdge : Obligations.BypassDelaysEveryScanByOneEdge := by
  intro n v s hs
  obtain ⟨hidle, hbypass, hreload⟩ := clockEnd_irScan_opcBypass hs
  obtain ⟨houts, -, hend, hsel⟩ := clock_drScan n.succ_pos v hidle
  rw [hreload] at houts
  have hread : ((clockOuts (irScan s.params.opcBypass ++ drScan v) s).drop (s.params.irWidth + 9)).take (n + 1) =
      (scanBits s.params.bypassReload ++ scanBits v).take (n + 1) := by
    have hlen : (clockOuts (irScan s.params.opcBypass) s).length = s.params.irWidth + 6 := by
      simp [irScan_eq, irScanEnter, irScanLeave]
    rw [clockOuts_append, ← houts, ← List.drop_drop (i := 3) (j := s.params.irWidth + 6), List.drop_left' hlen]
  refine ⟨_, _, clock_eq _ s, ?_, ?_, hread, fun hone => ?_⟩
  · rw [clockEnd_append, hend]
  · rw [clockEnd_append, hsel, hbypass]
  · have hbit : scanBits s.params.bypassReload = [s.params.bypassReload.getLsbD 0] := by simp [scanBits, hone]
    rw [hread, hbit, List.dropLast_eq_take, length_scanBits]
    rfl

end Machine
end Sys2Proof
end

section
/-! PROOFS. The family of 43_ir_decode.md: the decode as one choice among the four entries, the commit of an unrecognised opcode, the recommit of an
unchanged `IR`, and the five instructions as selections of their entry. -/

namespace Sys2Proof
namespace Machine

-- The decode.

/-- The rows of R115 by the entry they select: the two rows of `Bsr` are one. -/
theorem decodeEntry_eq_ite (p : Params) (w : Bits p.irWidth) :
    decodeEntry p w =
      if w = p.opcBypass then .bypass
      else if w = p.opcIdcode then .idcode
      else if w = p.opcExtest ∨ w = p.opcSample then .bsr
      else .unknown := by
  simp only [decodeEntry, irOp, apply_ite IrOp.entry, ite_or]
  rfl

/-- Settles O15: the first of the four rows that holds gives the entry, and makes the other three clauses false. -/
theorem opcodesSelectEntriesInTheOrderOfTheDecode : Obligations.OpcodesSelectEntriesInTheOrderOfTheDecode := by
  intro p w
  rw [decodeEntry_eq_ite]
  split_ifs with hBypass hIdcode hBsr
  · simp [hBypass]
  · simp [hIdcode, hIdcode ▸ hBypass]
  · simp [hBypass, hIdcode, hBsr, ← not_or]
  · simp [hBypass, hIdcode, hBsr, ← not_or]

-- The commit of an unrecognised opcode.

/-- With the source's values and conforming OPEN opcodes, 9 is none of the four opcodes (R4). -/
theorem decodeEntry_of_toNat_eq_nine {p : Params} {w : Bits p.irWidth} (hp : p.Normative) (hopen : p.Conforming)
    (hw : w.toNat = 9) : decodeEntry p w = .unknown := by
  obtain ⟨-, hBypass, hIdcode, -⟩ := hp
  obtain ⟨⟨-, -, hExtest⟩, -, -, hSample⟩ := hopen
  obtain ⟨-, -, -, hUnknown⟩ := opcodesSelectEntriesInTheOrderOfTheDecode p w
  refine hUnknown.mpr ⟨?_, ?_, ?_, ?_⟩ <;> rintro rfl
  · exact absurd (hw.symm.trans hBypass) (by decide)
  · exact absurd (hw.symm.trans hIdcode) (by decide)
  · exact hExtest hw
  · exact hSample hw

/-- Settles O16: the commit selects the decode of 9, and the bank gives that entry's reload value and length. -/
theorem committingNineSelectsUnknown : Obligations.CommittingNineSelectsUnknown := by
  intro s hp hopen hir
  have hdecode : decodeEntry s.params s.ir = .unknown := decodeEntry_of_toNat_eq_nine hp hopen hir
  obtain ⟨⟨-, -, -, -, hlen⟩, -, -, -, hreload, -⟩ := hp
  have hexec : exec .irExit1_1 s = .next ((s.select .unknown).goto .irUpdate) :=
    hdecode ▸ exec_tapInstr_eq_tapEffect .irExit1 true false s
  exact ⟨_, hexec, rfl, hreload, hlen, hir⟩

-- The recommit.

/-- The six edges of a recommit write nothing but the commit: the IR scan is left without a shift (R125). -/
theorem clockEnd_recommit (d1 d2 d3 d4 d5 d6 : Bool) {s : State} (h : s.state = .idle) :
    clockEnd [⟨true, d1⟩, ⟨true, d2⟩, ⟨false, d3⟩, ⟨true, d4⟩, ⟨true, d5⟩, ⟨false, d6⟩] s =
      ((s.rememberTck true).select (decodeEntry s.params s.ir)).goto .idle := by
  obtain ⟨p, st, ir, reg, prevTck, tdo, inputs⟩ := s
  obtain rfl : st = .idle := h
  rfl

/-- Settles O39: the recommit is the commit of the `IR` it started with. -/
theorem aRecommitRestoresTheReloadValue : Obligations.ARecommitRestoresTheReloadValue := by
  intro d1 d2 d3 d4 d5 d6 s hs
  refine ⟨_, _, clock_eq _ s, ?_⟩
  rw [clockEnd_recommit d1 d2 d3 d4 d5 d6 hs]
  exact ⟨rfl, rfl, State.select_sel .., State.select_dr .., rfl⟩

-- The instructions.

/-- Settles O14: each instruction selects the entry of its class, and the bank gives the entry's reload value and length. -/
theorem jtagInstructionsSelectAndReload : Obligations.JtagInstructionsSelectAndReload := fun w s =>
  ⟨⟨exec_toInstr_eq_select .bypass s, rfl⟩, ⟨exec_toInstr_eq_select .idcode s, rfl⟩,
    ⟨exec_toInstr_eq_select .extest s, rfl⟩, exec_toInstr_eq_select .sample s,
    ⟨exec_toInstr_eq_select (.unknown w) s, rfl⟩⟩

/-- Settles O17: the forced load is, by definition, the load of `OPC_IDCODE` and the selection of `Idcode`, which `IDCODE` performs. -/
theorem forcedSelectionIsLoadingAndCommittingIdcode : Obligations.ForcedSelectionIsLoadingAndCommittingIdcode := fun s =>
  (exec_tapInstr_eq_tapEffect .reset false false s).trans
    (exec_toInstr_eq_select .idcode ((s.loadIr s.params.opcIdcode).goto .idle)).symm

end Machine
end Sys2Proof
end

section
/-! PROOFS. The family of 60_exceptions.md: no instruction stops, in any state, and so no step does. -/

namespace Sys2Proof
namespace Machine

/-- R135: every instruction answers a next state, whatever state it is given. `STEP` answers the effect of its sample and the two rows that
commit answer what the commit answers; every other row is an effect by its meaning. -/
theorem exec_answers_next (i : Instr) (s : State) : ∃ t, exec i s = .next t := by
  cases i with
  | step tms tck tdi => exact ⟨_, exec_step_eq_sampleEffect tms tck tdi s⟩
  | irExit1_1 | irExit2_1 => exact ⟨_, commitIr_eq (s.goto .irUpdate)⟩
  | _ => exact ⟨_, rfl⟩

/-- R135: every step answers a next state: the same one where no sample waits (log 6), and otherwise the one that `STEP` answers. -/
theorem step_answers_next (s : State) : ∃ t, step s = .next t := by
  rcases step_cases s with ⟨-, hstep⟩ | ⟨q, rest, -, hstep⟩
  · exact ⟨s, hstep⟩
  · rw [hstep]
    exact exec_answers_next (.step q.tms q.tck q.tdi) { s with inputs := rest }

/-- Settles O5: a step performs nothing or `STEP`, and every instruction answers a next state. -/
theorem everyStepAndInstructionAnswersANextState : Obligations.EveryStepAndInstructionAnswersANextState :=
  ⟨step_answers_next, exec_answers_next⟩

end Machine
end Sys2Proof
end

section
/-! PROOFS. The family of 70_reset_and_hazards.md. A DR scan of the selected register's own length exchanges its contents for the operand, so that of two
scans the second reads the first; and a sample taken in `Reset` either leaves by the forced load, which overwrites the registers, or keeps both registers
and `tdo`. -/

namespace Sys2Proof
namespace Machine

-- Two DR scans.

@[simp] theorem length_drScan {n : Nat} (v : Bits n) : (drScan v).length = n + 5 := by
  simp [drScan_eq, drScanEnter, drScanLeave]

/-- A DR scan of the selected register's own length reads the register and leaves the operand in it (R57, R163). -/
theorem clock_drScan_exchanges {s : State} {n : Nat} (hn : s.drLen = n) (v : Bits n) (hs : s.state = .idle) :
    ((clockOuts (drScan v) s).drop 3).take n = s.drBits ∧ (clockEnd (drScan v) s).drBits = scanBits v ∧
      (clockEnd (drScan v) s).state = .idle ∧ (clockEnd (drScan v) s).sel = s.sel := by
  have hpos : 0 < n := hn ▸ Entry.len_pos s.params s.sel
  have hlen : s.drBits.length = n := s.length_drBits.trans hn
  obtain ⟨houts, hbits, hidle, hsel⟩ := clock_drScan hpos v hs
  rw [List.take_left' hlen] at houts
  rw [List.drop_left' hlen] at hbits
  exact ⟨houts, hbits, hidle, hsel⟩

/-- Settles O38: each scan exchanges `DR` for its operand and keeps the selection, hence the length; between them nothing is captured (R77). -/
theorem aSecondDrScanReadsWhatTheFirstShiftedIn : Obligations.ASecondDrScanReadsWhatTheFirstShiftedIn := by
  intro s v w hs
  obtain ⟨hread, hheld, hidle, hsel⟩ := clock_drScan_exchanges rfl v hs
  have hlen : (clockEnd (drScan v) s).drLen = s.drLen := by rw [State.drLen, hsel, clockEnd_params, State.drLen]
  obtain ⟨hread', hheld', -, hsel'⟩ := clock_drScan_exchanges hlen w hidle
  have hfirst : (clockOuts (drScan v) s).length = s.drLen + 5 := by simp
  refine ⟨_, _, clock_eq _ s, ?_, ?_, ?_⟩
  · rw [clockOuts_append, List.drop_append_of_le_length (by omega), List.take_append_of_le_length (by simp), hread]
  · rw [clockOuts_append, ← List.drop_drop (i := 3) (j := s.drLen + 5), List.drop_left' hfirst, hread', hheld]
  · rw [clockEnd_append]
    exact ⟨State.dr_eq_toNat_of_drBits hheld', hsel'.trans hsel⟩

-- What is held in `Reset`.

/-- A sample taken in `Reset` leaves by the forced load on an edge with `tms` = 0; any other only remembers the level (R62, R74). -/
theorem sampleEffect_of_reset (q : PinSample) {s : State} (hs : s.state = .reset) :
    sampleEffect q s =
      if risingEdge s.prevTck q.tck = true ∧ q.tms = false then (s.rememberTck q.tck).forceIdcode.goto .idle
      else s.rememberTck q.tck := by
  obtain ⟨p, st, ir, reg, prevTck, tdo, inputs⟩ := s
  obtain rfl : st = .reset := hs
  obtain ⟨tms, tck, tdi⟩ := q
  cases hedge : risingEdge prevTck tck
  · simp [sampleEffect, hedge]
  · cases tms
    · simp [sampleEffect, hedge, tapEffect]
    · simp [sampleEffect, hedge, tapEffect, nextState, State.goto, State.rememberTck]

/-- The values an observation returns, the first of them apart. -/
theorem observe_cons_fst (q : PinSample) (qs : List PinSample) (s : State) :
    (observe (q :: qs) s).map Prod.fst =
      ((observe qs (sampleEffect q s)).map Prod.fst).map ((sampleEffect q s).tdo :: ·) := by
  rw [observe_cons, Option.map_map, Option.map_map]
  rfl

/-- Settles O45: while the state stays `Reset` no sample reads the registers or drives `tdo`, and the edge that leaves it gives both machines the same
registers. -/
theorem registersHeldInResetAreNeverObserved : Obligations.RegistersHeldInResetAreNeverObserved := by
  intro qs s w r hs
  induction qs generalizing s with
  | nil => rfl
  | cons q qs ih =>
    have hs' : State.state { s with ir := w, reg := r } = .reset := hs
    rw [observe_cons_fst, observe_cons_fst, sampleEffect_of_reset q hs, sampleEffect_of_reset q hs']
    by_cases hleave : risingEdge s.prevTck q.tck = true ∧ q.tms = false
    · rw [if_pos hleave, if_pos hleave]
      rfl
    · rw [if_neg hleave, if_neg hleave]
      exact congrArg (Option.map (s.tdo :: ·)) (ih (s.rememberTck q.tck) w r hs)

end Machine
end Sys2Proof
end
